-- ==== Sys2Proof/Word.lean ====
section
/-! DEFINITION. Word types of the controller (00_scope.md R13, R14). Everything is unsigned; bit 0 is the
least significant bit. -/

namespace Sys2Proof

/-- A device register value, a register address, a command operand (R13). -/
abbrev Byte := BitVec 8

/-- A host command word, CO2, TVOC, Baseline, a response's data (R13). -/
abbrev Half := BitVec 16

/-- A bus request word or the data of a bus response (R114, R115). -/
abbrev Word := BitVec 32

end Sys2Proof
end

