-- ==== Sys2Proof/Syntax.lean ====
section
/-! DEFINITION. The instructions: one constructor per row of spec/opcode_table.json, the six host commands of
30_encoding.md R101 to R106 and the five bus transactions of 20_memory.md R62. -/

namespace Sys2Proof

inductive Instr where
  /-- CONFIGURE (R101, R122). -/
  | configure
  /-- SET_DRIVE_MODE m (R102, R151). -/
  | setDriveMode (m : Byte)
  /-- GET_BASELINE (R103, R155). -/
  | getBaseline
  /-- POLL_ONCE (R104, R170). -/
  | pollOnce
  /-- RUN (R105, R179). -/
  | run
  /-- DECODE e (R106, R202). -/
  | decodeError (e : Byte)
  /-- OPEN: `Open(bus, addr)` (R63, R120). -/
  | openHandle (bus : BitVec 8) (addr : BitVec 7)
  /-- READ_BYTE: `MemRead(a, 1)` (R65). -/
  | readByte (a : Byte)
  /-- READ_BLOCK: `MemRead(a, len)` (R64). -/
  | readBlock (a : Byte) (len : Byte)
  /-- WRITE_BYTE: `MemWrite(a, 1, v)` (R66). -/
  | writeByte (a : Byte) (v : Byte)
  /-- WRITE_COMMAND: `Command(c)` (R67). -/
  | writeCommand (c : Byte)
  deriving DecidableEq, Repr

end Sys2Proof
end

