-- ==== Sys2Proof/WellFormed.lean ====
section
/-! DEFINITION. Well-formed instructions. Every field but one has exactly the width of its place in the word,
so the types check it; the length of a READ_BLOCK is "1-4" (30_encoding.md R114) in an 8-bit place. -/

namespace Sys2Proof

/-- The length of a block read lies in the range R114 gives its L field. -/
def blockLengthOk (len : Byte) : Bool := 1 ≤ len.toNat && len.toNat ≤ 4

def Instr.wf : Instr → Bool
  | .configure => true
  | .setDriveMode _ => true
  | .getBaseline => true
  | .pollOnce => true
  | .run => true
  | .decodeError _ => true
  | .openHandle _ _ => true
  | .readByte _ => true
  | .readBlock _ len => blockLengthOk len
  | .writeByte _ _ => true
  | .writeCommand _ => true

end Sys2Proof
end

