-- ==== Sys2Proof/Decode.lean ====
section
/-! DEFINITION. The decoder and the encoder of the two kinds of port word: the 16-bit host command word
(30_encoding.md R100 to R107, R118) and the 32-bit bus request word (R114). The decoder is total and rejects
by name. -/

namespace Sys2Proof

/-- A word on one of the controller's two word ports. -/
inductive PortWord where
  /-- `cmd_word[15:0]` (R100). -/
  | command (w : Half)
  /-- `breq` (R114). -/
  | busRequest (w : Word)
  deriving DecidableEq, Repr

/-- Why a word is no instruction. -/
inductive DecodeError where
  /-- R107 (a): `op` is 0x00 or 0x07 to 0xFF. -/
  | reservedOpcode
  /-- R107 (b): a non-zero operand of CONFIGURE, GET_BASELINE, POLL_ONCE or RUN. -/
  | reservedOperand
  /-- R114: kinds 0x5 to 0xF, "never issued". -/
  | reservedKind
  /-- R114: a bit that the kind's row gives as zero is set. -/
  | reservedField
  deriving DecidableEq, Repr

/-- The `op` field of a command word (R100). -/
def opField (w : Half) : Byte := w.extractLsb' 8 8

/-- The `arg` field of a command word (R100). -/
def argField (w : Half) : Byte := w.extractLsb' 0 8

/-- R107 (b): the commands without operand take `arg = 0x00` only. -/
def withoutOperand (arg : Byte) (i : Instr) : Except DecodeError Instr :=
  if arg = 0x00#8 then .ok i else .error .reservedOperand

/-- The host command decoder (R101 to R107). -/
def decodeCommand (w : Half) : Except DecodeError Instr :=
  if opField w = 0x01#8 then withoutOperand (argField w) .configure
  else if opField w = 0x02#8 then .ok (.setDriveMode (argField w))
  else if opField w = 0x03#8 then withoutOperand (argField w) .getBaseline
  else if opField w = 0x04#8 then withoutOperand (argField w) .pollOnce
  else if opField w = 0x05#8 then withoutOperand (argField w) .run
  else if opField w = 0x06#8 then .ok (.decodeError (argField w))
  else .error .reservedOpcode

/-! Fields of a bus request word (R114). -/

def kindField (w : Word) : BitVec 4 := w.extractLsb' 28 4
def zeroField (w : Word) : BitVec 4 := w.extractLsb' 24 4
def aField (w : Word) : Byte := w.extractLsb' 16 8
def lField (w : Word) : Byte := w.extractLsb' 8 8
def vField (w : Word) : Byte := w.extractLsb' 0 8

/-- The zero fields of a row of R114 are zero. -/
def whenZero (zero : Bool) (i : Instr) : Except DecodeError Instr :=
  if zero then .ok i else .error .reservedField

/-- The bus request decoder (R114). The L field of READ_BLOCK may hold any value, as in the opcode table's
mask; its range is checked by `Instr.wf` (log 7). -/
def decodeBus (w : Word) : Except DecodeError Instr :=
  if zeroField w ≠ 0x0#4 then .error .reservedField
  else if kindField w = 0x0#4 then
    whenZero (lField w = 0x00#8 && !(vField w).getLsbD 7)
      (.openHandle (aField w) ((vField w).extractLsb' 0 7))
  else if kindField w = 0x1#4 then
    whenZero (lField w = 0x00#8 && vField w = 0x00#8) (.readByte (aField w))
  else if kindField w = 0x2#4 then
    whenZero (vField w = 0x00#8) (.readBlock (aField w) (lField w))
  else if kindField w = 0x3#4 then
    whenZero (lField w = 0x00#8) (.writeByte (aField w) (vField w))
  else if kindField w = 0x4#4 then
    whenZero (lField w = 0x00#8 && vField w = 0x00#8) (.writeCommand (aField w))
  else .error .reservedKind

/-- The decoder, total on the words of both ports. -/
def decode : PortWord → Except DecodeError Instr
  | .command w => decodeCommand w
  | .busRequest w => decodeBus w

/-! The encoder, from the same tables. -/

/-- `op` in bits 15:8, `arg` in bits 7:0 (R100). -/
def commandWord (op arg : Byte) : Half := op ++ arg

/-- kind, zero, A, L, V from the top (R114). -/
def busWord (kind : BitVec 4) (a l v : Byte) : Word := kind ++ 0x0#4 ++ a ++ l ++ v

/-- R114, kind 0x0: V holds `0 ++ DEV_ADDR[6:0]`. -/
def openWord (bus : BitVec 8) (addr : BitVec 7) : Word := busWord 0x0#4 bus 0x00#8 (0#1 ++ addr)
/-- R114, kind 0x1. -/
def readByteWord (a : Byte) : Word := busWord 0x1#4 a 0x00#8 0x00#8
/-- R114, kind 0x2. -/
def readBlockWord (a len : Byte) : Word := busWord 0x2#4 a len 0x00#8
/-- R114, kind 0x3. -/
def writeByteWord (a v : Byte) : Word := busWord 0x3#4 a 0x00#8 v
/-- R114, kind 0x4. -/
def writeCommandWord (c : Byte) : Word := busWord 0x4#4 c 0x00#8 0x00#8

/-- The word of an instruction on its port. -/
def encode : Instr → PortWord
  | .configure => .command (commandWord 0x01#8 0x00#8)
  | .setDriveMode m => .command (commandWord 0x02#8 m)
  | .getBaseline => .command (commandWord 0x03#8 0x00#8)
  | .pollOnce => .command (commandWord 0x04#8 0x00#8)
  | .run => .command (commandWord 0x05#8 0x00#8)
  | .decodeError e => .command (commandWord 0x06#8 e)
  | .openHandle bus addr => .busRequest (openWord bus addr)
  | .readByte a => .busRequest (readByteWord a)
  | .readBlock a len => .busRequest (readBlockWord a len)
  | .writeByte a v => .busRequest (writeByteWord a v)
  | .writeCommand c => .busRequest (writeCommandWord c)

/-- The port word of a row of spec/opcode_table.json: 16 bits for CMD16, 32 bits for BREQ32. -/
def tableWord (nbits w : Nat) : Option PortWord :=
  if nbits = 16 then (if w < 2 ^ 16 then some (.command (BitVec.ofNat 16 w)) else none)
  else if nbits = 32 then (if w < 2 ^ 32 then some (.busRequest (BitVec.ofNat 32 w)) else none)
  else none

/-- What the decoder reads from a word numbered as spec/opcode_table.json numbers it. -/
def decodeTableWord (nbits w : Nat) : Option Instr :=
  match tableWord nbits w with
  | none => none
  | some p =>
    match decode p with
    | .ok i => some i
    | .error _ => none

end Sys2Proof
end

