-- ==== Sys2Proof/Config.lean ====
section
/-! DEFINITION. Parameters of 00_scope.md R6 to R12 and the register address constants of 30_encoding.md R80.
The OPEN parameters have no body: a statement holds for every value of them. -/

namespace Sys2Proof.Config

/-- `DEV_ADDR` (R6): the source's default, which this hardware must be given. -/
def devAddr : BitVec 7 := 0x5B#7

/-- `BUS_INDEX` (R7): an OPEN parameter; 8 bits because R114 asks for at most 255. Log 15. -/
opaque busIndex : BitVec 8

/-- `HW_ID_EXPECTED` (R8). -/
def hwIdExpected : Byte := 0x81#8

/-- `MODE_MAX` (R9). -/
def modeMax : Byte := 4#8

/-- `DEFAULT_MODE` (R9). -/
def defaultMode : Byte := 1#8

/-- `ALG_BLOCK_LEN` (R10). -/
def algBlockLen : Byte := 4#8

/-- `BASELINE_LEN` (R10). -/
def baselineLen : Byte := 2#8

/-- By how many microseconds `POLL_INTERVAL` exceeds the shortest positive duration: no value is fixed. Log 14. -/
opaque pollIntervalExcess : Nat

/-- `POLL_INTERVAL` (R11) in microseconds: an OPEN parameter, positive, every positive number being possible.
The model has no time (R236) and no step reads it. Log 14. -/
def pollInterval : Nat := pollIntervalExcess + 1

/-- The reference value of `POLL_INTERVAL`, 1 s in microseconds (R11). The parameter need not have it. -/
def pollIntervalReference : Nat := 1000000

/-- `APPSTART_SETTLE` (R12): the number of steps between the app-start command and the next status read.
The sequencer goes from CFG_APPSTART to CFG_ST_APP directly (R126). -/
def appStartSettle : Nat := 0

/-! Register addresses (R61, R80). -/

def status : Byte := 0x00#8
def measMode : Byte := 0x01#8
def algResultData : Byte := 0x02#8
def rawData : Byte := 0x03#8
def envData : Byte := 0x05#8
def ntc : Byte := 0x06#8
def thresholds : Byte := 0x10#8
def baseline : Byte := 0x11#8
def hwId : Byte := 0x20#8
def hwVersion : Byte := 0x21#8
def fwBootVersion : Byte := 0x23#8
def fwAppVersion : Byte := 0x24#8
def errorId : Byte := 0xE0#8
def appStart : Byte := 0xF4#8
def swReset : Byte := 0xFF#8

end Sys2Proof.Config
end

