-- ==== Sys2Proof/Machine/State.lean ====
section
/-! DEFINITION. The state of the controller, its ports and its inputs as plain data, the reasons a step can stop,
and the state after reset (10_state.md R20 to R45). Numeric codes are in Operands.lean. -/

namespace Sys2Proof.Machine

/-- `top_state` (R20). -/
inductive TopState where
  | uninitialized | configuring | polling | faulted | stopped
  deriving DecidableEq, Repr

/-- `pc`: the sequencer position (R22). -/
inductive Label where
  | idle | openBus
  | cfgHwid | cfgStBoot | cfgErrBoot | cfgStValid | cfgAppstart | cfgStApp | cfgErrApp
  | cfgMmRd | cfgMmWr | cfgStMode | cfgErrMode
  | sdmRd | sdmWr | blRd
  | pollSt | pollData | pollErr
  | runChkPre | sleep | runChkHead
  deriving DecidableEq, Repr

/-- The session faults of `fault_code` (R215). -/
inductive SessionFault where
  | none | busError | deviceNotFound | startupError | noValidApplication | appStartError | driveModeError
  deriving DecidableEq, Repr

/-- The decoded fault kinds (R85). -/
inductive FaultKind where
  | noFault | msgInvalid | readRegInvalid | measModeInvalid | maxResistance | heaterFault | heaterSupply
  deriving DecidableEq, Repr

/-- A report event (R110). -/
inductive Report where
  | reading (co2 tvoc : Half)
  | fault (kind : FaultKind)
  deriving DecidableEq, Repr

/-- `rsp_code` (R108). -/
inductive RspCode where
  | ok | fault | rejected | stopped
  deriving DecidableEq, Repr

/-- A response (R108). -/
structure Response where
  code : RspCode
  data : Half
  deriving DecidableEq, Repr

/-- A bus response as the port carries it: `bresp_err`, `bresp_data[31:0]` (R115). -/
structure BusAnswer where
  err : Bool
  data : Word
  deriving DecidableEq, Repr

/-- What a transaction gives the controller (R62, R117): the ignored bits of the answer are gone (R115). -/
inductive BusResult where
  | busError
  | done
  | byte (v : Byte)
  | block (bs : List Byte)
  deriving DecidableEq, Repr

/-- An entry of the ordered record: a completed transaction (its request word and its result), a report, a response
(R74, R108, R110). -/
inductive Event where
  | bus (req : Word) (res : BusResult)
  | report (r : Report)
  | response (r : Response)
  deriving DecidableEq, Repr

/-- The input pins of one tick (R112, R113, R115, R236). -/
structure Inputs where
  /-- `rst_n`, active low. -/
  rstN : Bool
  /-- `cancel`. -/
  cancel : Bool
  /-- `cmd_word` where `cmd_valid = 1`. -/
  cmd : Option Half
  /-- The bus agent's answer, where it answers in this tick. -/
  bus : Option BusAnswer
  /-- The timer agent takes its step in this tick. -/
  timer : Bool
  deriving DecidableEq, Repr

/-- Nothing asserted, reset released. -/
def Inputs.quiet : Inputs := { rstN := true, cancel := false, cmd := none, bus := none, timer := false }

/-- The latch `blk`: bytes b[0] to b[3] (R32). -/
structure Block where
  b0 : Byte
  b1 : Byte
  b2 : Byte
  b3 : Byte
  deriving DecidableEq, Repr

/-- The machine. Field by field as INVENTORY.md lists it. -/
structure State where
  topState : TopState
  pc : Label
  inRun : Bool
  curOp : Byte
  curArg : Byte
  handleValid : Bool
  faultCode : SessionFault
  cancelReq : Bool
  readingCo2 : Half
  readingTvoc : Half
  readingValid : Bool
  id : Byte
  st : Byte
  er : Byte
  mm : Byte
  blk : Block
  /-- The request outstanding at the bus agent (R114, R266, R268; log 5). -/
  breq : Option Word
  /-- The response port of the step just taken; absent is `rsp_valid = 0` (R108). -/
  rsp : Option Response
  /-- The report port of the step just taken; absent is `rpt_valid = 0` (R110). -/
  rpt : Option Report
  /-- Every transaction, report and response so far, oldest first (log 9). -/
  events : List Event
  /-- The input pins of the present tick (log 2). -/
  pins : Inputs
  /-- The input pins of the ticks to come, next first (log 2). -/
  env : List Inputs
  deriving DecidableEq, Repr

/-- Why the model stops with a fault. -/
inductive Fault where
  /-- Raised by an OBSERVATION of the reading store while `reading_valid = 0` (R30, I9); no step raises it.
  Safe: the hardware gives no value there either. -/
  | readingHasNoValue
  deriving DecidableEq, Repr

/-- Why the model gives no meaning. -/
inductive Refusal where
  /-- An instruction whose arm of exec has no meaning yet. Safe. -/
  | notModelled (mnemonic : String)
  /-- Raised by step where the outstanding bus request word is none that R114 defines (kinds 0x5 to 0xF, a non-zero
  reserved field). Safe: no run reaches it (log 18). -/
  | reservedBusWord
  deriving DecidableEq, Repr

/-- What a meaning and a step answer. -/
abbrev Result := Host.Outcome State Fault Refusal

/-- After reset and before the OPEN step (R45, R250). The values of `curOp`, `curArg`, `id`, `st`, `er`, `mm`, `blk`
are DESIGN CHOICES (log 3), those of the reading store too (log 4); the inputs are quiet and the record empty
(logs 2, 9). -/
def State.reset : State where
  topState := .uninitialized
  pc := .openBus
  inRun := false
  curOp := 0x00#8
  curArg := 0x00#8
  handleValid := false
  faultCode := .none
  cancelReq := false
  readingCo2 := 0x0000#16
  readingTvoc := 0x0000#16
  readingValid := false
  id := 0x00#8
  st := 0x00#8
  er := 0x00#8
  mm := 0x00#8
  blk := ⟨0x00#8, 0x00#8, 0x00#8, 0x00#8⟩
  breq := none
  rsp := none
  rpt := none
  events := []
  pins := Inputs.quiet
  env := []

end Sys2Proof.Machine
end

