-- ==== Sys2Proof/Machine/Operands.lean ====
section
/-! DEFINITION. Operand forms and numeric codes: the bytes of a bus answer (30_encoding.md R115), big-endian joins
(20_memory.md R69), the drive-mode operand (41_mode_baseline.md R150), the codes of the output ports
(10_state.md R20, R22; 30_encoding.md R85, R108, R110; 60_exceptions.md R215). -/

namespace Sys2Proof.Machine

/-- Byte `b[i]` of a bus answer, at bits 31-8i : 24-8i (R115). -/
def answerByte (data : Word) (i : Nat) : Byte := data.extractLsb' (24 - 8 * i) 8

/-- The bytes a READ_BLOCK of length `len` delivers, in order (R64); the port carries four (R115, log 7). -/
def answerBytes (data : Word) (len : Byte) : List Byte :=
  (List.range (min len.toNat 4)).map (answerByte data)

/-- The block latch after a block of `len` bytes: those bytes are written, "bytes past the requested length are
ignored" (R32, R115; log 8). -/
def Block.take (blk : Block) (data : Word) (len : Byte) : Block where
  b0 := if 0 < len.toNat then answerByte data 0 else blk.b0
  b1 := if 1 < len.toNat then answerByte data 1 else blk.b1
  b2 := if 2 < len.toNat then answerByte data 2 else blk.b2
  b3 := if 3 < len.toNat then answerByte data 3 else blk.b3

/-- Big-endian join: the first byte is the more significant (R69). -/
def joinBytes (hi lo : Byte) : Half := hi ++ lo

/-- Zero-extension of a byte to a response's data (R109). -/
def zext16 (v : Byte) : Half := v.setWidth 16

/-- `min(m, MODE_MAX)` (R150). -/
def clampMode (m : Byte) : Byte := if m.toNat ≤ Config.modeMax.toNat then m else Config.modeMax

/-- The drive-mode field of MeasMode, bits 6:4 (R83). -/
def driveModeMask : Byte := 0b0111#8 <<< 4

/-- The MeasMode byte written back by `DriveModeRMW(m)` over the byte `mm` just read (R150). -/
def driveModeByte (mm m : Byte) : Byte := (mm &&& ~~~driveModeMask) ||| (clampMode m <<< 4)

/-- Codes of `top_state` (R20). -/
def TopState.code : TopState → BitVec 3
  | .uninitialized => 0 | .configuring => 1 | .polling => 2 | .faulted => 3 | .stopped => 4

/-- Codes of `pc` (R22). -/
def Label.code : Label → BitVec 5
  | .idle => 0x00 | .openBus => 0x01
  | .cfgHwid => 0x02 | .cfgStBoot => 0x03 | .cfgErrBoot => 0x04 | .cfgStValid => 0x05 | .cfgAppstart => 0x06
  | .cfgStApp => 0x07 | .cfgErrApp => 0x08 | .cfgMmRd => 0x09 | .cfgMmWr => 0x0A | .cfgStMode => 0x0B
  | .cfgErrMode => 0x0C
  | .sdmRd => 0x10 | .sdmWr => 0x11 | .blRd => 0x12
  | .pollSt => 0x14 | .pollData => 0x15 | .pollErr => 0x16
  | .runChkPre => 0x17 | .sleep => 0x18 | .runChkHead => 0x19

/-- Codes of `fault_code` (R215). -/
def SessionFault.code : SessionFault → BitVec 4
  | .none => 0 | .busError => 1 | .deviceNotFound => 2 | .startupError => 3 | .noValidApplication => 4
  | .appStartError => 5 | .driveModeError => 6

/-- Codes of the decoded kinds (R85). -/
def FaultKind.code : FaultKind → BitVec 3
  | .noFault => 0 | .msgInvalid => 1 | .readRegInvalid => 2 | .measModeInvalid => 3 | .maxResistance => 4
  | .heaterFault => 5 | .heaterSupply => 6

/-- Codes of `rsp_code` (R108). -/
def RspCode.code : RspCode → BitVec 2
  | .ok => 0 | .fault => 1 | .rejected => 2 | .stopped => 3

/-- `rpt_type` (R110). -/
def Report.typeBit : Report → BitVec 1
  | .reading _ _ => 0 | .fault _ => 1

/-- `rpt_kind[2:0]`: FAULT only, else 0 (R110). -/
def Report.kindBits : Report → BitVec 3
  | .reading _ _ => 0 | .fault k => k.code

/-- `rpt_co2[15:0]`: READING only, else 0 (R110). -/
def Report.co2Bits : Report → Half
  | .reading c _ => c | .fault _ => 0

/-- `rpt_tvoc[15:0]`: READING only, else 0 (R110). -/
def Report.tvocBits : Report → Half
  | .reading _ t => t | .fault _ => 0

/-- `zext_16(fault_code)`, the data of a FAULT response (R109). -/
def SessionFault.responseData (f : SessionFault) : Half := f.code.setWidth 16

/-- `zext_16(kind)`, the data of DECODE's response (R109). -/
def FaultKind.responseData (k : FaultKind) : Half := k.code.setWidth 16

end Sys2Proof.Machine
end

