-- ==== Sys2Proof/Machine/Flags.lean ====
section
/-! DEFINITION. The flags: the status and error bit tests (10_state.md R33) and the error decoder
(43_error_decoder.md R200). There is no condition-code register. -/

namespace Sys2Proof.Machine

/-! Status byte (R81). -/

/-- ERROR: bit 0. -/
def statusError (st : Byte) : Bool := st.getLsbD 0
/-- DATA_READY: bit 3. -/
def statusDataReady (st : Byte) : Bool := st.getLsbD 3
/-- APP_VALID: bit 4. -/
def statusAppValid (st : Byte) : Bool := st.getLsbD 4

/-- The decoder's ordered table of error bits (R200, R82): highest priority first. -/
def errorTable : List (Nat × FaultKind) :=
  [(5, .heaterSupply), (4, .heaterFault), (3, .maxResistance), (2, .measModeInvalid), (1, .readRegInvalid),
    (0, .msgInvalid)]

/-- The first row of a table whose bit is set, or NO_FAULT. -/
def scanErrors (e : Byte) : List (Nat × FaultKind) → FaultKind
  | [] => .noFault
  | (bit, kind) :: rest => if e.getLsbD bit then kind else scanErrors e rest

/-- `Decode(e)` (R200). -/
def decodeErrorByte (e : Byte) : FaultKind := scanErrors e errorTable

end Sys2Proof.Machine
end

