-- ==== Sys2Proof/Machine/Ops.lean ====
section
/-! DEFINITION. The shared operations: writing the output ports, entering a session fault and the reset that alone
leaves it, accepting a host command, and performing a bus transaction. -/

namespace Sys2Proof.Machine

/-- `pc <- label` (R15, R22). -/
def State.goto (l : Label) (s : State) : State := { s with pc := l }

/-- `respond(code, data)`: the response port of this step, recorded in order (R108). -/
def State.respond (code : RspCode) (data : Half) (s : State) : State :=
  { s with rsp := some ⟨code, data⟩, events := s.events ++ [.response ⟨code, data⟩] }

/-- `emit Report(r)`: the report port of this step, recorded in order (R110). -/
def State.emit (r : Report) (s : State) : State :=
  { s with rpt := some r, events := s.events ++ [.report r] }

/-- The completion of a transaction: no request is outstanding any more, and the transaction is recorded (R74). -/
def State.completeBus (req : Word) (res : BusResult) (s : State) : State :=
  { s with breq := none, events := s.events ++ [.bus req res] }

/-- A command is in progress: `pc` is neither IDLE nor OPEN (R220). -/
def State.commandInProgress (s : State) : Bool := s.pc != .idle && s.pc != .openBus

/-- TAKING A SESSION FAULT (R220): the code and FAULTED are written, a FAULT response is given where a command is in
progress, `in_run` is cleared, `pc` goes to IDLE. Nothing else is saved; there is no handler address. -/
def State.sessionFault (f : SessionFault) (s : State) : State :=
  let t := { s with faultCode := f, topState := .faulted }
  let u := if s.commandInProgress then t.respond .fault f.responseData else t
  { u with inRun := false, pc := .idle }

/-- The input pins of the next tick (log 2). -/
def State.nextPins (s : State) : State :=
  match s.env with
  | [] => { s with pins := Inputs.quiet }
  | p :: rest => { s with pins := p, env := rest }

/-- LEAVING A SESSION FAULT: there is no return but reset (R224, R250). Every controller register and every output
port takes its reset value, an outstanding transaction is abandoned (R268); what has been recorded stays recorded
(log 9), and the tick's other inputs are not seen (log 17). -/
def State.takeReset (s : State) : State :=
  { State.reset with events := s.events, pins := s.pins, env := s.env }

/-- The pulses of the step before are over: `rsp_valid` and `rpt_valid` hold "for one step" (R108, R110). -/
def State.beginStep (s : State) : State := { s with rsp := none, rpt := none }

/-- The end of a step: `cancel` is latched (R112: a test in this step saw the latch as it was at its start), and the
next tick's pins are sampled. -/
def State.endStep (s : State) : State :=
  State.nextPins { s with cancelReq := s.cancelReq || s.pins.cancel }

/-- A cancellation is pending that an IDLE step takes (R182): not in FAULTED, and STOPPED has taken it. -/
def State.cancelPending (s : State) : Bool :=
  s.cancelReq && (s.topState == .uninitialized || s.topState == .polling)

/-- Idle cancellation (R182): no response, no transaction. -/
def State.idleCancel (s : State) : State := { s with topState := .stopped }

/-- `cur_op` and `cur_arg` are latched at acceptance (R25, R100). -/
def State.latchCommand (w : Half) (s : State) : State := { s with curOp := opField w, curArg := argField w }

/-- Acceptance of a host command word (R107): held while the controller is busy (R23, R269), after a pending idle
cancellation (R182, R225 (e)), REJECTED where the session state does not allow it (R107 (c), R223), and else `body`. -/
def acceptCommand (w : Half) (legal : TopState → Bool) (body : State → State) (s : State) : Result :=
  if s.pc ≠ .idle then .next s
  else if s.cancelPending then .next s.idleCancel
  else if legal s.topState then .next (body (s.latchCommand w))
  else .next ((s.latchCommand w).respond .rejected 0x0000#16)

/-! The legality table of R107 (c), a row each. CONFIGURING is never idle; there it accepts nothing but DECODE
(log 16). -/

def legalConfigure (t : TopState) : Bool := t == .uninitialized
def legalInPolling (t : TopState) : Bool := t == .polling
def legalRun (t : TopState) : Bool := t == .uninitialized || t == .polling
def legalDecode (_ : TopState) : Bool := true

/-- A reserved command word is REJECTED in every state (R107 (a), (b), R118). -/
def rejectReserved (w : Half) (s : State) : Result := acceptCommand w (fun _ => false) (fun t => t) s

/-- One bus transaction (R16, R62, R115): while the agent has not answered, the request stays outstanding (R266);
`BusError` is followed in the same step by session fault BUS_ERROR, and the transaction's result is discarded (R220,
R221); otherwise the transaction completes with `res`, and `finish` does what the answer's data causes. -/
def busTransaction (req : Word) (res : Word → BusResult) (finish : Word → State → State) (s : State) : Result :=
  match s.pins.bus with
  | none => .next { s with breq := some req }
  | some ans =>
    if ans.err then .next ((s.completeBus req .busError).sessionFault .busError)
    else .next (finish ans.data (s.completeBus req (res ans.data)))

/-- The latch a READ_BYTE of register `a` fills (R32); other registers have none (log 6). -/
def State.latchByte (a v : Byte) (s : State) : State :=
  if a = Config.status then { s with st := v }
  else if a = Config.measMode then { s with mm := v }
  else if a = Config.hwId then { s with id := v }
  else if a = Config.errorId then { s with er := v }
  else s

/-- The block latch (R32). -/
def State.latchBlock (data : Word) (len : Byte) (s : State) : State := { s with blk := s.blk.take data len }

/-- The next state of an answer changed by `f`; a stop stays. -/
def mapNext (f : State → State) : Result → Result
  | .next s => .next (f s)
  | .fault r => .fault r
  | .refused r => .refused r

end Sys2Proof.Machine
end

