-- ==== Sys2Proof/Machine/ModeBaseline.lean ====
section
/-! DEFINITION. SET_DRIVE_MODE and GET_BASELINE (41_mode_baseline.md). -/

namespace Sys2Proof.Machine

/-- SET_DRIVE_MODE m (R102, R107, R151): its acceptance step. -/
def execSetDriveMode (m : Byte) (s : State) : Result :=
  acceptCommand (commandWord 0x02#8 m) legalInPolling (State.goto .sdmRd) s

/-- GET_BASELINE (R103, R107, R155): its acceptance step. -/
def execGetBaseline (s : State) : Result :=
  acceptCommand (commandWord 0x03#8 0x00#8) legalInPolling (State.goto .blRd) s

/-- The MeasMode byte SDM_WR writes (R150, R151): from the byte SDM_RD latched and the command's operand. -/
def State.sdmValue (s : State) : Byte := driveModeByte s.mm s.curArg

/-- The MeasMode byte CFG_MM_WR writes (R129). -/
def State.cfgModeValue (s : State) : Byte := driveModeByte s.mm Config.defaultMode

/-- SDM_RD completed (R151). -/
def State.sdmRdDone (s : State) : State := s.goto .sdmWr

/-- SDM_WR completed (R151): the response carries the byte written. -/
def State.sdmWrDone (s : State) : State := (s.respond .ok (zext16 s.sdmValue)).goto .idle

/-- BL_RD completed (R155): big-endian, no register but `blk` keeps it (R156). -/
def State.blRdDone (s : State) : State := (s.respond .ok (joinBytes s.blk.b0 s.blk.b1)).goto .idle

end Sys2Proof.Machine
end

