-- ==== Sys2Proof/Machine/Handshake.lean ====
section
/-! DEFINITION. CONFIGURE and the bring-up handshake (40_handshake.md): the acceptance step and what each label's step
does once its transaction has completed and its latch is filled. -/

namespace Sys2Proof.Machine

/-- Entering the handshake (R121, R178): `in_run` says whether RUN did. -/
def State.beginHandshake (run : Bool) (s : State) : State :=
  { s with inRun := run, topState := .configuring, pc := .cfgHwid }

/-- CONFIGURE (R101, R107, R121, R122): its acceptance step. -/
def execConfigure (s : State) : Result :=
  acceptCommand (commandWord 0x01#8 0x00#8) legalConfigure (State.beginHandshake false) s

/-- Step 1, identity (R123). -/
def State.cfgHwidDone (s : State) : State :=
  if s.id ≠ Config.hwIdExpected then s.sessionFault .deviceNotFound else s.goto .cfgStBoot

/-- Step 2, boot error check (R124). -/
def State.cfgStBootDone (s : State) : State :=
  if statusError s.st then s.goto .cfgErrBoot else s.goto .cfgStValid

/-- Step 3, application-valid check (R125). -/
def State.cfgStValidDone (s : State) : State :=
  if statusAppValid s.st then s.goto .cfgAppstart else s.sessionFault .noValidApplication

/-- Step 4, app start (R126): no wait follows. -/
def State.cfgAppstartDone (s : State) : State := s.goto .cfgStApp

/-- Step 5, app-start error check (R128). -/
def State.cfgStAppDone (s : State) : State :=
  if statusError s.st then s.goto .cfgErrApp else s.goto .cfgMmRd

/-- Step 6, the read of the read-modify-write (R129). -/
def State.cfgMmRdDone (s : State) : State := s.goto .cfgMmWr

/-- Step 6, the write of the read-modify-write (R129). -/
def State.cfgMmWrDone (s : State) : State := s.goto .cfgStMode

/-- Success (R131). -/
def State.handshakeDone (s : State) : State :=
  let t := { s with topState := .polling }
  if s.inRun then t.goto .runChkHead else (t.respond .ok 0x0000#16).goto .idle

/-- Step 7, drive-mode error check (R130). -/
def State.cfgStModeDone (s : State) : State :=
  if statusError s.st then s.goto .cfgErrMode else s.handshakeDone

/-- `ErrReport(code)` after its error-byte read (R127): the report, then the fault entry, in the same step. -/
def State.errReport (f : SessionFault) (s : State) : State :=
  (s.emit (.fault (decodeErrorByte s.er))).sessionFault f

end Sys2Proof.Machine
end

