-- ==== Sys2Proof/Machine/Polling.lean ====
section
/-! DEFINITION. POLL_ONCE, RUN, the poll iteration, the checkpoints and the sleep (42_polling.md). -/

namespace Sys2Proof.Machine

/-- POLL_ONCE (R104, R107, R170): its acceptance step. -/
def execPollOnce (s : State) : Result :=
  acceptCommand (commandWord 0x04#8 0x00#8) legalInPolling
    (fun t => { t with inRun := false, pc := .pollSt }) s

/-- RUN (R105, R107, R178): its acceptance step, into the handshake where the session is UNINITIALIZED and else
straight to the loop. -/
def execRun (s : State) : Result :=
  acceptCommand (commandWord 0x05#8 0x00#8) legalRun
    (fun t => if t.topState = .uninitialized then t.beginHandshake true
      else { t with inRun := true, pc := .runChkHead }) s

/-- The end of an iteration (R176): `branch` is 0, 1 or 2. -/
def State.endIteration (branch : Half) (s : State) : State :=
  if s.inRun then s.goto .runChkPre else (s.respond .ok branch).goto .idle

/-- POLL_ST completed (R171, R173): DATA_READY before ERROR, one branch at most. -/
def State.pollStDone (s : State) : State :=
  if statusDataReady s.st then s.goto .pollData
  else if statusError s.st then s.goto .pollErr
  else s.endIteration 0x0000#16

/-- The reading store takes both fields at once (R29, R174). -/
def State.storeReading (co2 tvoc : Half) (s : State) : State :=
  { s with readingCo2 := co2, readingTvoc := tvoc, readingValid := true }

/-- POLL_DATA completed (R174): store and report the reading of the block just latched (R69). -/
def State.pollDataDone (s : State) : State :=
  let co2 := joinBytes s.blk.b0 s.blk.b1
  let tvoc := joinBytes s.blk.b2 s.blk.b3
  ((s.storeReading co2 tvoc).emit (.reading co2 tvoc)).endIteration 0x0001#16

/-- POLL_ERR completed (R175): a runtime fault is a report and nothing else. -/
def State.pollErrDone (s : State) : State :=
  (s.emit (.fault (decodeErrorByte s.er))).endIteration 0x0002#16

/-- `Stop()` (R179). -/
def State.stopRun (s : State) : State :=
  (State.respond .stopped 0x0000#16 { s with topState := .stopped, inRun := false }).goto .idle

/-- A cancellation checkpoint of RUN (R181). -/
def State.checkpoint (next : Label) (s : State) : State :=
  if s.cancelReq then s.stopRun else s.goto next

/-- A tick at SLEEP (R180, R236): only the timer ends it. -/
def State.sleepTick (s : State) : State := if s.pins.timer then s.goto .runChkHead else s

end Sys2Proof.Machine
end

