-- ==== Sys2Proof/Machine/Sequencer.lean ====
section
/-! DEFINITION. The sequencer: which transaction each label issues (10_state.md R22, 30_encoding.md R116), what its
completion does, and the steps that issue none. -/

namespace Sys2Proof.Machine

/-- The transaction a label's step issues (R22, R116). -/
def State.labelTransaction (s : State) : Option Instr :=
  match s.pc with
  | .idle => none
  | .openBus => some (.openHandle Config.busIndex Config.devAddr)
  | .cfgHwid => some (.readByte Config.hwId)
  | .cfgStBoot => some (.readByte Config.status)
  | .cfgErrBoot => some (.readByte Config.errorId)
  | .cfgStValid => some (.readByte Config.status)
  | .cfgAppstart => some (.writeCommand Config.appStart)
  | .cfgStApp => some (.readByte Config.status)
  | .cfgErrApp => some (.readByte Config.errorId)
  | .cfgMmRd => some (.readByte Config.measMode)
  | .cfgMmWr => some (.writeByte Config.measMode s.cfgModeValue)
  | .cfgStMode => some (.readByte Config.status)
  | .cfgErrMode => some (.readByte Config.errorId)
  | .sdmRd => some (.readByte Config.measMode)
  | .sdmWr => some (.writeByte Config.measMode s.sdmValue)
  | .blRd => some (.readBlock Config.baseline Config.baselineLen)
  | .pollSt => some (.readByte Config.status)
  | .pollData => some (.readBlock Config.algResultData Config.algBlockLen)
  | .pollErr => some (.readByte Config.errorId)
  | .runChkPre => none
  | .sleep => none
  | .runChkHead => none

/-- What a label's step does once its transaction has completed and its latch is filled. A label that issues no
transaction does nothing here. -/
def State.labelDone (s : State) : State :=
  match s.pc with
  | .idle => s
  | .openBus => s.goto .idle
  | .cfgHwid => s.cfgHwidDone
  | .cfgStBoot => s.cfgStBootDone
  | .cfgErrBoot => s.errReport .startupError
  | .cfgStValid => s.cfgStValidDone
  | .cfgAppstart => s.cfgAppstartDone
  | .cfgStApp => s.cfgStAppDone
  | .cfgErrApp => s.errReport .appStartError
  | .cfgMmRd => s.cfgMmRdDone
  | .cfgMmWr => s.cfgMmWrDone
  | .cfgStMode => s.cfgStModeDone
  | .cfgErrMode => s.errReport .driveModeError
  | .sdmRd => s.sdmRdDone
  | .sdmWr => s.sdmWrDone
  | .blRd => s.blRdDone
  | .pollSt => s.pollStDone
  | .pollData => s.pollDataDone
  | .pollErr => s.pollErrDone
  | .runChkPre => s
  | .sleep => s
  | .runChkHead => s

/-- The label at `pc` issues the transaction `i` (R22). OPEN is the only label that opens, whatever the two
parameters of `Open` are (R6, R7; log 12). -/
def State.issues (s : State) (i : Instr) : Bool :=
  match i with
  | .openHandle _ _ => s.pc == .openBus
  | _ => s.labelTransaction == some i

/-- After the transaction `i` of state `s` has filled its latch in `t`: the label's own continuation where the label
issued it, and nothing where it did not (log 6). -/
def resumeAfter (s : State) (i : Instr) (t : State) : State := if s.issues i then t.labelDone else t

/-- A step that issues no transaction and accepts no command (R18): idle cancellation (R182) or an idle tick, the two
checkpoints (R181), a tick of the sleep (R180). A label that issues a transaction takes none. -/
def State.internalStep (s : State) : State :=
  match s.pc with
  | .idle => if s.cancelPending then s.idleCancel else s
  | .runChkPre => s.checkpoint .sleep
  | .runChkHead => s.checkpoint .pollSt
  | .sleep => s.sleepTick
  | .openBus | .cfgHwid | .cfgStBoot | .cfgErrBoot | .cfgStValid | .cfgAppstart | .cfgStApp | .cfgErrApp
  | .cfgMmRd | .cfgMmWr | .cfgStMode | .cfgErrMode | .sdmRd | .sdmWr | .blRd | .pollSt | .pollData | .pollErr => s

end Sys2Proof.Machine
end

