-- ==== Sys2Proof/Machine/Bus.lean ====
section
/-! DEFINITION. The five bus transactions (20_memory.md R62 to R68). Each meaning issues the request word of R114, takes
the agent's answer, fills the latch of R32 and goes on as the label that issued it says. -/

namespace Sys2Proof.Machine

/-- OPEN (R63, R120): the handle is acquired; of the answer only `bresp_err` is seen (R115). -/
def execOpenHandle (bus : BitVec 8) (addr : BitVec 7) (s : State) : Result :=
  busTransaction (openWord bus addr) (fun _ => .done)
    (fun _ t => resumeAfter s (.openHandle bus addr) { t with handleValid := true }) s

/-- READ_BYTE (R65): one byte, b[0] of the answer. -/
def execReadByte (a : Byte) (s : State) : Result :=
  busTransaction (readByteWord a) (fun d => .byte (answerByte d 0))
    (fun d t => resumeAfter s (.readByte a) (t.latchByte a (answerByte d 0))) s

/-- READ_BLOCK (R64): exactly `len` bytes, in order. -/
def execReadBlock (a len : Byte) (s : State) : Result :=
  busTransaction (readBlockWord a len) (fun d => .block (answerBytes d len))
    (fun d t => resumeAfter s (.readBlock a len) (t.latchBlock d len)) s

/-- WRITE_BYTE (R66): nothing comes back. -/
def execWriteByte (a v : Byte) (s : State) : Result :=
  busTransaction (writeByteWord a v) (fun _ => .done) (fun _ t => resumeAfter s (.writeByte a v) t) s

/-- WRITE_COMMAND (R67): a command byte without payload. -/
def execWriteCommand (c : Byte) (s : State) : Result :=
  busTransaction (writeCommandWord c) (fun _ => .done) (fun _ t => resumeAfter s (.writeCommand c) t) s

end Sys2Proof.Machine
end

