-- ==== Sys2Proof/Machine/Decoder.lean ====
section
/-! DEFINITION. DECODE (43_error_decoder.md). -/

namespace Sys2Proof.Machine

/-- DECODE e (R106, R202): one step, `pc` stays IDLE, no bus traffic, legal in every state. -/
def execDecodeError (e : Byte) (s : State) : Result :=
  acceptCommand (commandWord 0x06#8 e) legalDecode
    (State.respond .ok (decodeErrorByte e).responseData) s

end Sys2Proof.Machine
end

