-- ==== Sys2Proof/Machine/Dispatch.lean ====
section
/-! DEFINITION. One arm per constructor of Instr. -/

namespace Sys2Proof.Machine

def exec (i : Instr) (s : State) : Host.Outcome State Fault Refusal :=
  match i with
  | .configure => Sys2Proof.Machine.execConfigure s
  | .setDriveMode m => Sys2Proof.Machine.execSetDriveMode m s
  | .getBaseline => Sys2Proof.Machine.execGetBaseline s
  | .pollOnce => Sys2Proof.Machine.execPollOnce s
  | .run => Sys2Proof.Machine.execRun s
  | .decodeError e => Sys2Proof.Machine.execDecodeError e s
  | .openHandle bus addr => Sys2Proof.Machine.execOpenHandle bus addr s
  | .readByte a => Sys2Proof.Machine.execReadByte a s
  | .readBlock a len => Sys2Proof.Machine.execReadBlock a len s
  | .writeByte a v => Sys2Proof.Machine.execWriteByte a v s
  | .writeCommand c => Sys2Proof.Machine.execWriteCommand c s

end Sys2Proof.Machine
end

