-- ==== Sys2Proof/Machine/Fetch.lean ====
section
/-! DEFINITION. Where the next instruction comes from: the bus request outstanding, else the transaction of the label at
`pc`, else, at IDLE, the command on the command port (10_state.md R22, R23; 20_memory.md R77). -/

namespace Sys2Proof.Machine

/-- What a step finds to do. -/
inductive Fetched where
  | instr (i : Instr)
  | reservedCommand (w : Half)
  | reservedBus (w : Word)
  | internal
  deriving DecidableEq, Repr

/-- The word on the port the next instruction comes from, if there is one. -/
def State.portWord (s : State) : Option PortWord :=
  match s.breq with
  | some w => some (.busRequest w)
  | none =>
    match s.labelTransaction with
    | some i => some (encode i)
    | none =>
      if s.pc = .idle then
        match s.pins.cmd with
        | some w => some (.command w)
        | none => none
      else none

/-- The decoded bus request outstanding. -/
def fetchBus (w : Word) : Fetched :=
  match decodeBus w with
  | .ok i => .instr i
  | .error _ => .reservedBus w

/-- The decoded command presented. -/
def fetchCommand (w : Half) : Fetched :=
  match decodeCommand w with
  | .ok i => .instr i
  | .error _ => .reservedCommand w

/-- What the step does (R18). A label's transaction is taken as the instruction it is. -/
def State.fetch (s : State) : Fetched :=
  match s.breq with
  | some w => fetchBus w
  | none =>
    match s.labelTransaction with
    | some i => .instr i
    | none =>
      if s.pc = .idle then
        match s.pins.cmd with
        | some w => fetchCommand w
        | none => .internal
      else .internal

/-- Place a command where the next step takes it: IDLE, nothing outstanding, reset released, no cancellation that an
IDLE step takes first, and the word on the command port. -/
def State.placeCommand (w : Half) (s : State) : State :=
  { s with
    pc := .idle
    breq := none
    cancelReq := if s.cancelPending then false else s.cancelReq
    pins := { s.pins with rstN := true, cmd := some w } }

/-- Place a bus request where the next step performs it: outstanding on the bus port, reset released. -/
def State.placeBus (w : Word) (s : State) : State :=
  { s with breq := some w, pins := { s.pins with rstN := true } }

/-- Place a port word. -/
def State.place (p : PortWord) (s : State) : State :=
  match p with
  | .command w => s.placeCommand w
  | .busRequest w => s.placeBus w

/-- Place the word of a row of spec/opcode_table.json; other widths place nothing. -/
def State.placeTableWord (nbits w : Nat) (s : State) : State :=
  match tableWord nbits w with
  | some p => s.place p
  | none => s

end Sys2Proof.Machine
end

