-- ==== Sys2Proof/Machine/Tick.lean ====
section
/-! DEFINITION. One tick of the controller (00_scope.md R18, 70_reset_and_hazards.md R250). -/

namespace Sys2Proof.Machine

/-- What a step does with what it fetched. -/
def runFetched (f : Fetched) (s : State) : Result :=
  match f with
  | .instr i => exec i s
  | .reservedCommand w => rejectReserved w s
  | .reservedBus _ => .refused .reservedBusWord
  | .internal => .next s.internalStep

/-- Reset wins over everything in its tick (R250); otherwise the step fetched runs between the end of the last step's
pulses and the sampling of the next tick's pins. -/
def tick (s : State) : Result :=
  if s.pins.rstN then mapNext State.endStep (runFetched s.fetch s.beginStep)
  else .next s.takeReset.nextPins

end Sys2Proof.Machine
end

