-- ==== Sys2Proof/Machine/Step.lean ====
section
/-! DEFINITION. One step, and where an instruction is put for the next step (log 13). -/

namespace Sys2Proof.Machine

def step (s : State) : Host.Outcome State Fault Refusal := tick s

/-- `s` with the word of a row of spec/opcode_table.json where step fetches next: on the command port at IDLE for a
16-bit word, outstanding on the bus request port for a 32-bit word. -/
def State.withFetchWord (s : State) (nbits w : Nat) : State := s.placeTableWord nbits w

end Sys2Proof.Machine
end

