-- ==== Sys2Proof/Machine/Observe.lean ====
section
/-! DEFINITION. What the host can observe (10_state.md R44, R23, R30; 30_encoding.md R113). Nothing else of State is
observable. -/

namespace Sys2Proof.Machine

/-- An observation of a reading field: a value, or the fault that there is none. -/
inductive Observed where
  | value (v : Half)
  | fault (f : Fault)
  deriving DecidableEq, Repr

/-- `reading_co2` as the host reads it (R30). -/
def State.observeCo2 (s : State) : Observed :=
  if s.readingValid then .value s.readingCo2 else .fault .readingHasNoValue

/-- `reading_tvoc` as the host reads it (R30). -/
def State.observeTvoc (s : State) : Observed :=
  if s.readingValid then .value s.readingTvoc else .fault .readingHasNoValue

/-- `cmd_ready` (R23). -/
def State.cmdReady (s : State) : Bool := s.pc == .idle

/-- The reports of a record, in order (R110). -/
def reportsOf (es : List Event) : List Report :=
  es.filterMap fun | .report r => some r | .bus _ _ => none | .response _ => none

/-- The responses of a record, in order (R108). -/
def responsesOf (es : List Event) : List Response :=
  es.filterMap fun | .response r => some r | .bus _ _ => none | .report _ => none

/-- The bus transactions of a record, in order (R74, R117). -/
def transactionsOf (es : List Event) : List (Word × BusResult) :=
  es.filterMap fun | .bus w r => some (w, r) | .report _ => none | .response _ => none

/-- The host's whole view of the controller at one step (R44). -/
structure Outputs where
  topState : BitVec 3
  faultCode : BitVec 4
  cmdReady : Bool
  readingValid : Bool
  readingCo2 : Observed
  readingTvoc : Observed
  rsp : Option Response
  rpt : Option Report
  deriving DecidableEq, Repr

def State.outputs (s : State) : Outputs where
  topState := s.topState.code
  faultCode := s.faultCode.code
  cmdReady := s.cmdReady
  readingValid := s.readingValid
  readingCo2 := s.observeCo2
  readingTvoc := s.observeTvoc
  rsp := s.rsp
  rpt := s.rpt

end Sys2Proof.Machine
end

