-- ==== Sys2Proof/Safety.lean ====
section
/-! DEFINITION. The terms in which statements about runs are written: input schedules, the session invariant, the
request words the controller can issue, the transitions of the session state, and CONFIGURE's pseudocode as one function
of the answers. -/

namespace Sys2Proof.Machine

/-! Schedules of inputs. -/

/-- The state with the input pins of its next ticks; quiet after them. -/
def State.withInputs (s : State) (ps : List Inputs) : State :=
  match ps with
  | [] => { s with pins := Inputs.quiet, env := [] }
  | p :: rest => { s with pins := p, env := rest }

/-- A tick in which the bus agent answers and nothing else happens. -/
def Inputs.answering (a : BusAnswer) : Inputs := { Inputs.quiet with bus := some a }

/-- A tick in which the host presents a command and nothing else happens. -/
def Inputs.presenting (w : Half) : Inputs := { Inputs.quiet with cmd := some w }

/-- `n` ticks of the machine. -/
def runTicks (n : Nat) (s : State) : Result := Host.Core.run Sys2Proof.core n s

/-! The session invariant (log 19 names what it rules out). -/

/-- A label of the handshake (R22). -/
def Label.inHandshake : Label → Bool
  | .cfgHwid | .cfgStBoot | .cfgErrBoot | .cfgStValid | .cfgAppstart | .cfgStApp | .cfgErrApp | .cfgMmRd | .cfgMmWr
  | .cfgStMode | .cfgErrMode => true
  | .idle | .openBus | .sdmRd | .sdmWr | .blRd | .pollSt | .pollData | .pollErr | .runChkPre | .sleep
  | .runChkHead => false

/-- A label of a poll iteration (R22). -/
def Label.inIteration : Label → Bool
  | .pollSt | .pollData | .pollErr => true
  | .idle | .openBus | .cfgHwid | .cfgStBoot | .cfgErrBoot | .cfgStValid | .cfgAppstart | .cfgStApp | .cfgErrApp
  | .cfgMmRd | .cfgMmWr | .cfgStMode | .cfgErrMode | .sdmRd | .sdmWr | .blRd | .runChkPre | .sleep
  | .runChkHead => false

/-- The labels only a RUN visits (R22). -/
def Label.inRunOnly : Label → Bool
  | .runChkPre | .sleep | .runChkHead => true
  | .idle | .openBus | .cfgHwid | .cfgStBoot | .cfgErrBoot | .cfgStValid | .cfgAppstart | .cfgStApp | .cfgErrApp
  | .cfgMmRd | .cfgMmWr | .cfgStMode | .cfgErrMode | .sdmRd | .sdmWr | .blRd | .pollSt | .pollData
  | .pollErr => false

/-- The session state fits the label: CONFIGURING exactly in the handshake, POLLING at every other busy label,
UNINITIALIZED at OPEN, anything but CONFIGURING at IDLE (R20, R21, R107). -/
def sessionFits (t : TopState) (l : Label) : Bool :=
  if l = .idle then t != .configuring
  else if l = .openBus then t == .uninitialized
  else if l.inHandshake then t == .configuring
  else t == .polling

/-- `in_run` is 1 only in the handshake, an iteration or a label of RUN, and 1 at every label of RUN (R24). -/
def runFits (inRun : Bool) (l : Label) : Bool :=
  if l.inRunOnly then inRun else l.inHandshake || l.inIteration || !inRun

/-- `fault_code` is NONE exactly outside FAULTED (R27). -/
def faultFits (t : TopState) (f : SessionFault) : Bool :=
  if t = .faulted then f != .none else f == .none

/-- `handle_valid` is 0 until OPEN succeeds and 1 from then on; only a session whose OPEN failed has none (R26). -/
def handleFits (s : State) : Bool :=
  if s.pc = .openBus then !s.handleValid else s.handleValid || s.topState == .faulted

/-- No reading before the session polls (R29, R30). -/
def readingFits (s : State) : Bool :=
  !(s.topState == .uninitialized || s.topState == .configuring) || !s.readingValid

/-- An outstanding request is that of the label at `pc` (R22, R116). -/
def busFits (s : State) : Bool :=
  match s.breq with
  | none => true
  | some w => s.labelTransaction.map encode == some (.busRequest w)

/-- What the latches must show at the labels that were reached through a test of them (R122, R171). -/
def latchFits (s : State) : Bool :=
  (!s.pc.inHandshake || s.pc == .cfgHwid || s.id == Config.hwIdExpected) &&
  (!(s.pc == .cfgErrBoot || s.pc == .cfgErrApp || s.pc == .cfgErrMode) || statusError s.st) &&
  (!(s.pc == .cfgAppstart) || statusAppValid s.st) &&
  (!(s.pc == .pollData) || statusDataReady s.st) &&
  (!(s.pc == .pollErr) || (!statusDataReady s.st && statusError s.st))

/-- While a command is in progress `cur_op` is its opcode (R25, R100). -/
def opFits (s : State) : Bool :=
  if s.pc = .idle ∨ s.pc = .openBus then true
  else if s.inRun then s.curOp == 0x05#8
  else if s.pc.inHandshake then s.curOp == 0x01#8
  else if s.pc.inIteration then s.curOp == 0x04#8
  else if s.pc = .blRd then s.curOp == 0x03#8
  else s.curOp == 0x02#8

/-- The session invariant: it holds after reset and every step keeps it. -/
abbrev State.Inv (s : State) : Prop :=
  sessionFits s.topState s.pc = true ∧ runFits s.inRun s.pc = true ∧ faultFits s.topState s.faultCode = true ∧
  handleFits s = true ∧ readingFits s = true ∧ busFits s = true ∧ latchFits s = true ∧ opFits s = true

/-! Whole-machine vocabulary. -/

/-- The transitions of `top_state` (R21); staying is none. -/
def topTransition : TopState → TopState → Bool
  | .uninitialized, .configuring => true
  | .configuring, .polling => true
  | .uninitialized, .faulted => true
  | .configuring, .faulted => true
  | .polling, .faulted => true
  | .uninitialized, .stopped => true
  | .polling, .stopped => true
  | _, _ => false

/-- The host commands among the instructions (R101 to R106). -/
def isHostCommand : Instr → Bool
  | .configure | .setDriveMode _ | .getBaseline | .pollOnce | .run | .decodeError _ => true
  | .openHandle _ _ | .readByte _ | .readBlock _ _ | .writeByte _ _ | .writeCommand _ => false

/-- A state that accepts a command in its step: IDLE, no cancellation pending (R107). -/
def State.accepting (s : State) : Prop := s.pc = .idle ∧ s.cancelPending = false

/-- The reserved command words (R118): opcodes 0x00 and 0x07 to 0xFF, and a non-zero operand of CONFIGURE, GET_BASELINE,
POLL_ONCE and RUN. -/
def ReservedCommand (w : Half) : Prop :=
  opField w = 0x00#8 ∨ 0x07 ≤ (opField w).toNat ∨
  ((opField w = 0x01#8 ∨ opField w = 0x03#8 ∨ opField w = 0x04#8 ∨ opField w = 0x05#8) ∧ argField w ≠ 0x00#8)

/-- The request word of the transaction a label's step issues, with the constants R116 writes out. -/
def State.requestWord (s : State) : Option Word :=
  match s.pc with
  | .openBus => some (0x00#8 ++ Config.busIndex ++ 0x00#8 ++ 0#1 ++ 0x5B#7)
  | .cfgStBoot | .cfgStValid | .cfgStApp | .cfgStMode | .pollSt => some 0x10000000#32
  | .cfgMmRd | .sdmRd => some 0x10010000#32
  | .cfgHwid => some 0x10200000#32
  | .cfgErrBoot | .cfgErrApp | .cfgErrMode | .pollErr => some 0x10E00000#32
  | .pollData => some 0x20020400#32
  | .blRd => some 0x20110200#32
  | .cfgMmWr => some (0x300100#24 ++ ((s.mm &&& 0x8F#8) ||| 0x10#8))
  | .sdmWr => some (0x300100#24 ++ ((s.mm &&& 0x8F#8) ||| (BitVec.ofNat 8 (min s.curArg.toNat 4) <<< 4)))
  | .cfgAppstart => some 0x40F40000#32
  | .idle | .runChkPre | .sleep | .runChkHead => none

/-- The report a step of a label gives on the answer it gets (R111): nothing but `FAULT(kind)` at the four error-byte
labels and `READING` at POLL_DATA, and nothing on a `BusError` or no answer. -/
def reportAt (l : Label) (answer : Option BusAnswer) : Option Report :=
  match answer with
  | none => none
  | some a =>
    if a.err then none
    else if l = .cfgErrBoot ∨ l = .cfgErrApp ∨ l = .cfgErrMode ∨ l = .pollErr then
      some (.fault (decodeErrorByte (a.data.extractLsb' 24 8)))
    else if l = .pollData then some (.reading (a.data.extractLsb' 16 16) (a.data.extractLsb' 0 16))
    else none

/-! CONFIGURE's pseudocode (R122) as one function of the answers, in order: the session fault it ends in (NONE for
success) and the request words issued; `none` where an answer is still awaited. -/

/-- `ErrReport(code)` over the answer to its error-byte read (R127). -/
def specErrReport (issued : List Word) (code : SessionFault) : List BusAnswer → Option (SessionFault × List Word)
  | [] => none
  | a :: _ => some (if a.err then .busError else code, issued ++ [0x10E00000#32])

/-- Step 7 (R130). -/
def specStep7 (issued : List Word) : List BusAnswer → Option (SessionFault × List Word)
  | [] => none
  | a :: rest =>
    if a.err then some (.busError, issued ++ [0x10000000#32])
    else if a.data.getLsbD 24 then specErrReport (issued ++ [0x10000000#32]) .driveModeError rest
    else some (.none, issued ++ [0x10000000#32])

/-- Step 6, the write of the byte read with mode 1 in its field (R129). -/
def specStep6Write (issued : List Word) (mm : Byte) : List BusAnswer → Option (SessionFault × List Word)
  | [] => none
  | a :: rest =>
    if a.err then some (.busError, issued ++ [0x300100#24 ++ ((mm &&& 0x8F#8) ||| 0x10#8)])
    else specStep7 (issued ++ [0x300100#24 ++ ((mm &&& 0x8F#8) ||| 0x10#8)]) rest

/-- Step 6, the read (R129). -/
def specStep6 (issued : List Word) : List BusAnswer → Option (SessionFault × List Word)
  | [] => none
  | a :: rest =>
    if a.err then some (.busError, issued ++ [0x10010000#32])
    else specStep6Write (issued ++ [0x10010000#32]) (a.data.extractLsb' 24 8) rest

/-- Step 5 (R128). -/
def specStep5 (issued : List Word) : List BusAnswer → Option (SessionFault × List Word)
  | [] => none
  | a :: rest =>
    if a.err then some (.busError, issued ++ [0x10000000#32])
    else if a.data.getLsbD 24 then specErrReport (issued ++ [0x10000000#32]) .appStartError rest
    else specStep6 (issued ++ [0x10000000#32]) rest

/-- Step 4 (R126). -/
def specStep4 (issued : List Word) : List BusAnswer → Option (SessionFault × List Word)
  | [] => none
  | a :: rest =>
    if a.err then some (.busError, issued ++ [0x40F40000#32]) else specStep5 (issued ++ [0x40F40000#32]) rest

/-- Step 3 (R125): bit 4 of the status byte, which is bit 28 of the answer. -/
def specStep3 (issued : List Word) : List BusAnswer → Option (SessionFault × List Word)
  | [] => none
  | a :: rest =>
    if a.err then some (.busError, issued ++ [0x10000000#32])
    else if a.data.getLsbD 28 then specStep4 (issued ++ [0x10000000#32]) rest
    else some (.noValidApplication, issued ++ [0x10000000#32])

/-- Step 2 (R124): bit 0 of the status byte, which is bit 24 of the answer. -/
def specStep2 (issued : List Word) : List BusAnswer → Option (SessionFault × List Word)
  | [] => none
  | a :: rest =>
    if a.err then some (.busError, issued ++ [0x10000000#32])
    else if a.data.getLsbD 24 then specErrReport (issued ++ [0x10000000#32]) .startupError rest
    else specStep3 (issued ++ [0x10000000#32]) rest

/-- The whole sequence, from step 1 (R122, R123). -/
def specConfigure : List BusAnswer → Option (SessionFault × List Word)
  | [] => none
  | a :: rest =>
    if a.err then some (.busError, [0x10200000#32])
    else if a.data.extractLsb' 24 8 = 0x81#8 then specStep2 [0x10200000#32] rest
    else some (.deviceNotFound, [0x10200000#32])

end Sys2Proof.Machine
end

