-- ==== Sys2Proof/Certificates/Slice0/Obligations.lean ====
section
/-! DEFINITION. The statements for the provers. Nothing is proved here. -/

open Sys2Proof Sys2Proof.Machine

/-! ## Encoding -/

/-- Words written out from 30_encoding.md R101 to R106 and R116 decode to the instructions they stand for. -/
def Obligations.SpelledWordsDecode : Prop :=
  decode (.command 0x0100#16) = .ok .configure ∧ decode (.command 0x02FF#16) = .ok (.setDriveMode 0xFF#8) ∧
  decode (.command 0x0300#16) = .ok .getBaseline ∧ decode (.command 0x0400#16) = .ok .pollOnce ∧
  decode (.command 0x0500#16) = .ok .run ∧ decode (.command 0x0620#16) = .ok (.decodeError 0x20#8) ∧
  decode (.busRequest 0x0001005B#32) = .ok (.openHandle 0x01#8 0x5B#7) ∧
  decode (.busRequest 0x10E00000#32) = .ok (.readByte 0xE0#8) ∧
  decode (.busRequest 0x20020400#32) = .ok (.readBlock 0x02#8 0x04#8) ∧
  decode (.busRequest 0x3001009F#32) = .ok (.writeByte 0x01#8 0x9F#8) ∧
  decode (.busRequest 0x40F40000#32) = .ok (.writeCommand 0xF4#8)

/-- Every instruction, with every operand at every value, is what its own word decodes to. For the READ_BLOCK lengths of
R114, 1 to 4, the spec gives the word; that a word with length 0 or 5 to 255 decodes is the model's choice (log 7). -/
def Obligations.EncodedInstructionDecodesBack : Prop := ∀ i : Instr, decode (encode i) = .ok i

/-- A word that decodes is the word of the instruction it decodes to: no bit of it is dropped. -/
def Obligations.DecodedWordEncodesBack : Prop := ∀ (p : PortWord) (i : Instr), decode p = .ok i → encode i = p

/-- R118: the reserved command words are exactly those the decoder rejects; presented to an accepting controller each is
REJECTED and has no other effect. -/
def Obligations.ReservedWordsAreRejected : Prop :=
  (∀ w : Half, ReservedCommand w ↔ ∃ e, decodeCommand w = .error e) ∧
  ∀ (s : State) (w : Half), s.pins.rstN = true → s.breq = none → s.accepting → s.pins.cmd = some w →
    ReservedCommand w →
    step s = .next (State.endStep { s with
      curOp := w.extractLsb' 8 8, curArg := w.extractLsb' 0 8, rsp := some ⟨.rejected, 0x0000#16⟩, rpt := none,
      events := s.events ++ [.response ⟨.rejected, 0x0000#16⟩] })

/-! ## Host commands: the acceptance step -/

/-- R121: CONFIGURE (word 0x0100) and RUN accepted in UNINITIALIZED enter the handshake, without a transaction. -/
def Obligations.ConfigureEntersHandshake : Prop :=
  decode (.command 0x0100#16) = .ok .configure ∧
  ∀ s : State, s.accepting → s.topState = .uninitialized →
    exec .configure s = .next { s with
      curOp := 0x01#8, curArg := 0x00#8, inRun := false, topState := .configuring, pc := .cfgHwid } ∧
    exec .run s = .next { s with
      curOp := 0x05#8, curArg := 0x00#8, inRun := true, topState := .configuring, pc := .cfgHwid }

/-- R178: RUN (word 0x0500) enters the handshake from UNINITIALIZED and skips it in POLLING. -/
def Obligations.RunSkipsHandshakeInPolling : Prop :=
  decode (.command 0x0500#16) = .ok .run ∧
  ∀ s : State, s.accepting →
    (s.topState = .uninitialized → exec .run s = .next { s with
      curOp := 0x05#8, curArg := 0x00#8, inRun := true, topState := .configuring, pc := .cfgHwid }) ∧
    (s.topState = .polling → exec .run s = .next { s with
      curOp := 0x05#8, curArg := 0x00#8, inRun := true, pc := .runChkHead })

/-- SET_DRIVE_MODE, GET_BASELINE and POLL_ONCE accepted in POLLING go to their first label, with no transaction in the
acceptance step (R151, R155, R170). -/
def Obligations.PollingCommandsStart : Prop :=
  ∀ s : State, s.accepting → s.topState = .polling →
    (∀ m : Byte, exec (.setDriveMode m) s = .next { s with curOp := 0x02#8, curArg := m, pc := .sdmRd }) ∧
    exec .getBaseline s = .next { s with curOp := 0x03#8, curArg := 0x00#8, pc := .blRd } ∧
    exec .pollOnce s = .next { s with curOp := 0x04#8, curArg := 0x00#8, inRun := false, pc := .pollSt }

/-- R202: DECODE (word 0x06ee) answers the kind of its operand in one step, in every session state, and writes `cur_op`
and `cur_arg` only; with R202's corner cases and example. -/
def Obligations.DecodeCommandAnswersKind : Prop :=
  (∀ e : Byte, decode (.command (0x06#8 ++ e)) = .ok (.decodeError e)) ∧
  (∀ (s : State) (e : Byte), s.accepting →
    exec (.decodeError e) s = .next { s with
      curOp := 0x06#8, curArg := e, rsp := some ⟨.ok, (decodeErrorByte e).code.setWidth 16⟩,
      events := s.events ++ [.response ⟨.ok, (decodeErrorByte e).code.setWidth 16⟩] }) ∧
  decodeErrorByte 0x00#8 = .noFault ∧ decodeErrorByte 0xC0#8 = .noFault ∧ decodeErrorByte 0xFF#8 = .heaterSupply ∧
  (decodeErrorByte 0x3F#8).code = 6#3

/-- R223 over R107: a command illegal in the session state, and a reserved word, is REJECTED and changes nothing but
`cur_op` and `cur_arg`. CONFIGURING, which is never idle, is left out of the first part. -/
def Obligations.IllegalCommandsAreRejected : Prop :=
  (∀ (s : State) (i : Instr), s.accepting → s.topState ≠ .configuring →
    (i = .configure ∧ s.topState ≠ .uninitialized) ∨
    (((∃ m, i = .setDriveMode m) ∨ i = .getBaseline ∨ i = .pollOnce) ∧ s.topState ≠ .polling) ∨
    (i = .run ∧ s.topState ≠ .uninitialized ∧ s.topState ≠ .polling) →
    ∀ w : Half, encode i = .command w →
      exec i s = .next { s with
        curOp := w.extractLsb' 8 8, curArg := w.extractLsb' 0 8, rsp := some ⟨.rejected, 0x0000#16⟩,
        events := s.events ++ [.response ⟨.rejected, 0x0000#16⟩] }) ∧
  (∀ (s : State) (w : Half), s.accepting → ReservedCommand w →
    rejectReserved w s = .next { s with
      curOp := w.extractLsb' 8 8, curArg := w.extractLsb' 0 8, rsp := some ⟨.rejected, 0x0000#16⟩,
      events := s.events ++ [.response ⟨.rejected, 0x0000#16⟩] })

/-- R23: `cmd_ready` is 1 exactly at IDLE; while the controller is busy no command is accepted: a command's meaning leaves
the state as it is, and a step does not see the command port. Without a word on the port none is accepted either. -/
def Obligations.BusyControllerAcceptsNoCommand : Prop :=
  (∀ s : State, s.cmdReady = true ↔ s.pc = .idle) ∧
  (∀ (s : State) (i : Instr), isHostCommand i = true → s.pc ≠ .idle → exec i s = .next s) ∧
  (∀ (s : State) (c : Option Half), s.pc ≠ .idle → step { s with pins := { s.pins with cmd := c } } = step s) ∧
  (∀ s t : State, s.pins.rstN = true → s.pins.cmd = none → step s = .next t →
    t.curOp = s.curOp ∧ t.curArg = s.curArg)

/-- R182: at IDLE a pending cancellation is taken before any command, silently; in FAULTED the latch has no effect on what
a step does. -/
def Obligations.IdleCancellationComesFirst : Prop :=
  (∀ s : State, s.pins.rstN = true → s.breq = none → s.pc = .idle → s.cancelReq = true →
    s.topState = .uninitialized ∨ s.topState = .polling →
    step s = .next (State.endStep { s with topState := .stopped, rsp := none, rpt := none })) ∧
  (∀ (s : State) (b : Bool), s.pins.rstN = true → s.breq = none → s.pc = .idle → s.topState = .faulted →
    step { s with cancelReq := b } =
      mapNext (fun t => { t with cancelReq := b || s.pins.cancel }) (step { s with cancelReq := false }))

/-- A command's acceptance step leaves every latch, the reading store, the handle, the fault code, the cancellation latch,
the report port, the bus port and the inputs as they are, and issues no transaction and no report. Only `top_state`,
`in_run`, `cur_op`, `cur_arg`, the response port and `pc` may change. -/
def Obligations.CommandAcceptanceFrame : Prop :=
  ∀ (i : Instr) (s t : State), isHostCommand i = true → exec i s = .next t →
    t.handleValid = s.handleValid ∧ t.faultCode = s.faultCode ∧ t.cancelReq = s.cancelReq ∧
    t.readingCo2 = s.readingCo2 ∧ t.readingTvoc = s.readingTvoc ∧ t.readingValid = s.readingValid ∧
    t.id = s.id ∧ t.st = s.st ∧ t.er = s.er ∧ t.mm = s.mm ∧ t.blk = s.blk ∧ t.breq = s.breq ∧ t.rpt = s.rpt ∧
    t.pins = s.pins ∧ t.env = s.env ∧ transactionsOf t.events = transactionsOf s.events ∧
    reportsOf t.events = reportsOf s.events

/-! ## The handshake -/

/-- R251: the first step after reset is OPEN. -/
def Obligations.OpenIsTheFirstStep : Prop :=
  ∀ (p : Inputs) (ps : List Inputs) (a : BusAnswer), p.rstN = true → p.bus = some a →
    ∃ t, step (State.reset.withInputs (p :: ps)) = .next t ∧ t.pc = .idle ∧
      (a.err = false → t.topState = .uninitialized ∧ t.handleValid = true ∧ t.cmdReady = true ∧
        t.faultCode = .none ∧
        t.events = [.bus (0x00#8 ++ Config.busIndex ++ 0x00#8 ++ 0#1 ++ 0x5B#7) .done]) ∧
      (a.err = true → t.topState = .faulted ∧ t.faultCode = .busError ∧ t.handleValid = false ∧ t.rsp = none ∧
        t.events = [.bus (0x00#8 ++ Config.busIndex ++ 0x00#8 ++ 0#1 ++ 0x5B#7) .busError])

/-- R123: the identity check. What a failed check leaves in `id` is not said here. -/
def Obligations.IdentityCheck : Prop :=
  ∀ (s : State) (d : Word), s.pc = .cfgHwid → s.pins.bus = some ⟨false, d⟩ →
    (d.extractLsb' 24 8 = 0x81#8 → exec (.readByte 0x20#8) s = .next { s with
      id := 0x81#8, breq := none, pc := .cfgStBoot, events := s.events ++ [.bus 0x10200000#32 (.byte 0x81#8)] }) ∧
    (d.extractLsb' 24 8 ≠ 0x81#8 → ∃ v : Byte, exec (.readByte 0x20#8) s = .next { s with
      id := v, breq := none, faultCode := .deviceNotFound, topState := .faulted, inRun := false,
      pc := .idle, rsp := some ⟨.fault, 0x0002#16⟩,
      events := s.events ++ [.bus 0x10200000#32 (.byte (d.extractLsb' 24 8)), .response ⟨.fault, 0x0002#16⟩] })

/-- R124 and R128: steps 2 and 5 test bit 0 of their own status read and nothing else. -/
def Obligations.ErrorBitChecks : Prop :=
  ∀ (s : State) (d : Word), s.pins.bus = some ⟨false, d⟩ →
    (s.pc = .cfgStBoot → exec (.readByte 0x00#8) s = .next { s with
      st := d.extractLsb' 24 8, breq := none, pc := if d.getLsbD 24 then .cfgErrBoot else .cfgStValid,
      events := s.events ++ [.bus 0x10000000#32 (.byte (d.extractLsb' 24 8))] }) ∧
    (s.pc = .cfgStApp → exec (.readByte 0x00#8) s = .next { s with
      st := d.extractLsb' 24 8, breq := none, pc := if d.getLsbD 24 then .cfgErrApp else .cfgMmRd,
      events := s.events ++ [.bus 0x10000000#32 (.byte (d.extractLsb' 24 8))] })

/-- R125: step 3 tests bit 4 of a new status read; clear, it is session fault NO_VALID_APPLICATION without a report. -/
def Obligations.ApplicationValidCheck : Prop :=
  ∀ (s : State) (d : Word), s.pc = .cfgStValid → s.pins.bus = some ⟨false, d⟩ →
    (d.getLsbD 28 = true → exec (.readByte 0x00#8) s = .next { s with
      st := d.extractLsb' 24 8, breq := none, pc := .cfgAppstart,
      events := s.events ++ [.bus 0x10000000#32 (.byte (d.extractLsb' 24 8))] }) ∧
    (d.getLsbD 28 = false → exec (.readByte 0x00#8) s = .next { s with
      st := d.extractLsb' 24 8, breq := none, faultCode := .noValidApplication, topState := .faulted, inRun := false,
      pc := .idle, rsp := some ⟨.fault, 0x0004#16⟩,
      events := s.events ++ [.bus 0x10000000#32 (.byte (d.extractLsb' 24 8)), .response ⟨.fault, 0x0004#16⟩] })

/-- R126 and R129: app start, and the read and the write of step 6. -/
def Obligations.AppStartAndModeWrite : Prop :=
  ∀ (s : State) (d : Word), s.pins.bus = some ⟨false, d⟩ →
    (s.pc = .cfgAppstart → exec (.writeCommand 0xF4#8) s = .next { s with
      breq := none, pc := .cfgStApp, events := s.events ++ [.bus 0x40F40000#32 .done] }) ∧
    (s.pc = .cfgMmRd → exec (.readByte 0x01#8) s = .next { s with
      mm := d.extractLsb' 24 8, breq := none, pc := .cfgMmWr,
      events := s.events ++ [.bus 0x10010000#32 (.byte (d.extractLsb' 24 8))] }) ∧
    (s.pc = .cfgMmWr →
      s.labelTransaction = some (.writeByte 0x01#8 ((s.mm &&& 0x8F#8) ||| 0x10#8)) ∧
      exec (.writeByte 0x01#8 ((s.mm &&& 0x8F#8) ||| 0x10#8)) s = .next { s with
        breq := none, pc := .cfgStMode,
        events := s.events ++ [.bus (0x300100#24 ++ ((s.mm &&& 0x8F#8) ||| 0x10#8)) .done] })

/-- R130 and R131: step 7 tests bit 0; clear, the handshake has succeeded, with a response outside RUN only. -/
def Obligations.HandshakeSuccess : Prop :=
  ∀ (s : State) (d : Word), s.pc = .cfgStMode → s.pins.bus = some ⟨false, d⟩ →
    (d.getLsbD 24 = true → exec (.readByte 0x00#8) s = .next { s with
      st := d.extractLsb' 24 8, breq := none, pc := .cfgErrMode,
      events := s.events ++ [.bus 0x10000000#32 (.byte (d.extractLsb' 24 8))] }) ∧
    (d.getLsbD 24 = false → s.inRun = false → exec (.readByte 0x00#8) s = .next { s with
      st := d.extractLsb' 24 8, breq := none, topState := .polling, pc := .idle, rsp := some ⟨.ok, 0x0000#16⟩,
      events := s.events ++ [.bus 0x10000000#32 (.byte (d.extractLsb' 24 8)), .response ⟨.ok, 0x0000#16⟩] }) ∧
    (d.getLsbD 24 = false → s.inRun = true → exec (.readByte 0x00#8) s = .next { s with
      st := d.extractLsb' 24 8, breq := none, topState := .polling, pc := .runChkHead,
      events := s.events ++ [.bus 0x10000000#32 (.byte (d.extractLsb' 24 8))] })

/-- The handshake's error path (R127), with R136's case of an empty error byte: report first, then the stage's session
fault, in the step of the error-byte read; a `BusError` there gives BUS_ERROR and no report. -/
def Obligations.HandshakeErrorPath : Prop :=
  (∀ (s : State) (d : Word) (f : SessionFault), s.pins.bus = some ⟨false, d⟩ →
    (s.pc = .cfgErrBoot ∧ f = .startupError) ∨ (s.pc = .cfgErrApp ∧ f = .appStartError) ∨
      (s.pc = .cfgErrMode ∧ f = .driveModeError) →
    exec (.readByte 0xE0#8) s = .next { s with
      er := d.extractLsb' 24 8, breq := none, rpt := some (.fault (decodeErrorByte (d.extractLsb' 24 8))),
      faultCode := f, topState := .faulted, inRun := false, pc := .idle, rsp := some ⟨.fault, f.code.setWidth 16⟩,
      events := s.events ++ [.bus 0x10E00000#32 (.byte (d.extractLsb' 24 8)),
        .report (.fault (decodeErrorByte (d.extractLsb' 24 8))), .response ⟨.fault, f.code.setWidth 16⟩] }) ∧
  (∀ e : Byte, e.extractLsb' 0 6 = 0#6 → decodeErrorByte e = .noFault) ∧
  (∀ (s : State) (d : Word), s.pins.bus = some ⟨true, d⟩ →
    s.pc = .cfgErrBoot ∨ s.pc = .cfgErrApp ∨ s.pc = .cfgErrMode →
    exec (.readByte 0xE0#8) s = .next { s with
      breq := none, faultCode := .busError, topState := .faulted, inRun := false, pc := .idle,
      rsp := some ⟨.fault, 0x0001#16⟩,
      events := s.events ++ [.bus 0x10E00000#32 .busError, .response ⟨.fault, 0x0001#16⟩] })

/-- CONFIGURE follows its pseudocode (R122, with R127 to R132): for every list of immediate answers on which the
pseudocode ends, the machine run from the acceptance of CONFIGURE ends, one tick a transaction, in the session fault and
with the request words the pseudocode gives (counted in R133), with one response and the reading store unchanged. -/
def Obligations.ConfigureRefinesItsPseudocode : Prop :=
  ∀ (s : State) (answers : List BusAnswer) (f : SessionFault) (words : List Word),
    s.accepting → s.topState = .uninitialized → s.faultCode = .none → s.cancelReq = false → s.breq = none →
    specConfigure answers = some (f, words) →
    ∃ t, runTicks (words.length + 1)
        (s.withInputs (Inputs.presenting 0x0100#16 :: answers.map Inputs.answering)) = .next t ∧
      t.pc = .idle ∧ t.faultCode = f ∧ t.topState = (if f = .none then .polling else .faulted) ∧
      (transactionsOf t.events).map Prod.fst = (transactionsOf s.events).map Prod.fst ++ words ∧
      responsesOf t.events = responsesOf s.events ++
        [if f = .none then ⟨.ok, 0x0000#16⟩ else ⟨.fault, f.code.setWidth 16⟩] ∧
      t.readingValid = s.readingValid ∧ t.readingCo2 = s.readingCo2 ∧ t.readingTvoc = s.readingTvoc

/-! ## Drive mode and baseline -/

/-- SET_DRIVE_MODE's two transactions (R151): the read latches `mm`, the write sends the byte of R150, and the response
carries it. -/
def Obligations.SetDriveModeReadsThenWrites : Prop :=
  ∀ (s : State) (d : Word), s.pins.bus = some ⟨false, d⟩ →
    (s.pc = .sdmRd → s.labelTransaction = some (.readByte 0x01#8) ∧ exec (.readByte 0x01#8) s = .next { s with
      mm := d.extractLsb' 24 8, breq := none, pc := .sdmWr,
      events := s.events ++ [.bus 0x10010000#32 (.byte (d.extractLsb' 24 8))] }) ∧
    (∀ v : Byte, v = (s.mm &&& 0x8F#8) ||| (BitVec.ofNat 8 (min s.curArg.toNat 4) <<< 4) → s.pc = .sdmWr →
      s.labelTransaction = some (.writeByte 0x01#8 v) ∧ exec (.writeByte 0x01#8 v) s = .next { s with
        breq := none, pc := .idle, rsp := some ⟨.ok, v.setWidth 16⟩,
        events := s.events ++ [.bus (0x300100#24 ++ v) .done, .response ⟨.ok, v.setWidth 16⟩] })

/-- R152: an operand above 4 issues the same transactions as 4. -/
def Obligations.DriveModeClamps : Prop :=
  ∀ (s : State) (m : Byte), 5 ≤ m.toNat →
    (s.pc = .sdmRd ∨ s.pc = .sdmWr) →
    State.labelTransaction { s with curArg := m } = State.labelTransaction { s with curArg := 0x04#8 } ∧
    driveModeByte s.mm m = driveModeByte s.mm 0x04#8 ∧
    ∀ n : Byte, n.toNat ≤ 4 → clampMode n = n

/-- R153: the written byte has the mode in bits 6:4 and the read byte everywhere else. -/
def Obligations.DriveModeKeepsOtherBits : Prop :=
  ∀ (mm m : Byte), m.toNat ≤ 4 →
    (driveModeByte mm m).extractLsb' 4 3 = m.extractLsb' 0 3 ∧
    (driveModeByte mm m).getLsbD 7 = mm.getLsbD 7 ∧
    (driveModeByte mm m).extractLsb' 0 4 = mm.extractLsb' 0 4

/-- The controller writes no register but MeasMode, and there only modes 0 to 4 over the bits just read (R66, R84). -/
def Obligations.OnlyMeasModeIsWritten : Prop :=
  ∀ (s : State) (a v : Byte), s.labelTransaction = some (.writeByte a v) →
    a = 0x01#8 ∧ (v.extractLsb' 4 3).toNat ≤ 4 ∧ v.getLsbD 7 = s.mm.getLsbD 7 ∧
    v.extractLsb' 0 4 = s.mm.extractLsb' 0 4

/-- GET_BASELINE's block read (R155): the 16-bit big-endian Baseline is the response, and only `blk` keeps it. -/
def Obligations.BaselineIsTheResponse : Prop :=
  ∀ (s : State) (d : Word), s.pc = .blRd → s.pins.bus = some ⟨false, d⟩ →
    s.labelTransaction = some (.readBlock 0x11#8 0x02#8) ∧
    exec (.readBlock 0x11#8 0x02#8) s = .next { s with
      blk := { s.blk with b0 := d.extractLsb' 24 8, b1 := d.extractLsb' 16 8 }, breq := none, pc := .idle,
      rsp := some ⟨.ok, d.extractLsb' 16 16⟩,
      events := s.events ++ [.bus 0x20110200#32 (.block [d.extractLsb' 24 8, d.extractLsb' 16 8]),
        .response ⟨.ok, d.extractLsb' 16 16⟩] }

/-! ## Polling -/

/-- R173 (and the end of an iteration without a branch, R176): DATA_READY is tested before ERROR on the one status read. -/
def Obligations.DataReadyBeforeError : Prop :=
  ∀ (s : State) (d : Word), s.pc = .pollSt → s.pins.bus = some ⟨false, d⟩ →
    (d.getLsbD 27 = true → exec (.readByte 0x00#8) s = .next { s with
      st := d.extractLsb' 24 8, breq := none, pc := .pollData,
      events := s.events ++ [.bus 0x10000000#32 (.byte (d.extractLsb' 24 8))] }) ∧
    (d.getLsbD 27 = false → d.getLsbD 24 = true → exec (.readByte 0x00#8) s = .next { s with
      st := d.extractLsb' 24 8, breq := none, pc := .pollErr,
      events := s.events ++ [.bus 0x10000000#32 (.byte (d.extractLsb' 24 8))] }) ∧
    (d.getLsbD 27 = false → d.getLsbD 24 = false → s.inRun = true → exec (.readByte 0x00#8) s = .next { s with
      st := d.extractLsb' 24 8, breq := none, pc := .runChkPre,
      events := s.events ++ [.bus 0x10000000#32 (.byte (d.extractLsb' 24 8))] }) ∧
    (d.getLsbD 27 = false → d.getLsbD 24 = false → s.inRun = false → exec (.readByte 0x00#8) s = .next { s with
      st := d.extractLsb' 24 8, breq := none, pc := .idle, rsp := some ⟨.ok, 0x0000#16⟩,
      events := s.events ++ [.bus 0x10000000#32 (.byte (d.extractLsb' 24 8)), .response ⟨.ok, 0x0000#16⟩] })

/-- R174: both fields of the reading come from the one block, in the step that completes it, with one READING; a
`BusError` leaves the store as it was and emits none. R176 says where the iteration goes. -/
def Obligations.DataBranchStoresTheReading : Prop :=
  ∀ (s : State) (d : Word), s.pc = .pollData →
    (s.pins.bus = some ⟨false, d⟩ → ∀ run : Bool, s.inRun = run →
      exec (.readBlock 0x02#8 0x04#8) s = .next { s with
        blk := ⟨d.extractLsb' 24 8, d.extractLsb' 16 8, d.extractLsb' 8 8, d.extractLsb' 0 8⟩, breq := none,
        readingCo2 := d.extractLsb' 16 16, readingTvoc := d.extractLsb' 0 16, readingValid := true,
        rpt := some (.reading (d.extractLsb' 16 16) (d.extractLsb' 0 16)),
        pc := if run then .runChkPre else .idle,
        rsp := if run then s.rsp else some ⟨.ok, 0x0001#16⟩,
        events := s.events ++
          [.bus 0x20020400#32
            (.block [d.extractLsb' 24 8, d.extractLsb' 16 8, d.extractLsb' 8 8, d.extractLsb' 0 8]),
           .report (.reading (d.extractLsb' 16 16) (d.extractLsb' 0 16))] ++
          if run then [] else [.response ⟨.ok, 0x0001#16⟩] }) ∧
    (s.pins.bus = some ⟨true, d⟩ →
      ∃ t, exec (.readBlock 0x02#8 0x04#8) s = .next t ∧ t.readingCo2 = s.readingCo2 ∧
        t.readingTvoc = s.readingTvoc ∧ t.readingValid = s.readingValid ∧ t.rpt = s.rpt ∧
        reportsOf t.events = reportsOf s.events)

/-- R175: the error branch is a report; `top_state`, `fault_code` and the reading store are unchanged. R176 says where
the iteration goes. -/
def Obligations.ErrorBranchOnlyReports : Prop :=
  ∀ (s : State) (d : Word), s.pc = .pollErr → s.pins.bus = some ⟨false, d⟩ → ∀ run : Bool, s.inRun = run →
    exec (.readByte 0xE0#8) s = .next { s with
      er := d.extractLsb' 24 8, breq := none, rpt := some (.fault (decodeErrorByte (d.extractLsb' 24 8))),
      pc := if run then .runChkPre else .idle,
      rsp := if run then s.rsp else some ⟨.ok, 0x0002#16⟩,
      events := s.events ++
        [.bus 0x10E00000#32 (.byte (d.extractLsb' 24 8)), .report (.fault (decodeErrorByte (d.extractLsb' 24 8)))] ++
        if run then [] else [.response ⟨.ok, 0x0002#16⟩] } ∧
    (d.extractLsb' 24 6 = 0#6 → decodeErrorByte (d.extractLsb' 24 8) = .noFault)

/-- R181: a checkpoint stops the RUN if a cancellation is latched, and else goes on, with no transaction; no step of the
handshake or of an iteration takes a cancellation. -/
def Obligations.CheckpointsTakeCancellation : Prop :=
  (∀ (s : State) (next : Label), s.pins.rstN = true → s.breq = none →
    (s.pc = .runChkHead ∧ next = .pollSt) ∨ (s.pc = .runChkPre ∧ next = .sleep) →
    step s = .next (State.endStep (if s.cancelReq
      then { s with
        topState := .stopped, inRun := false, pc := .idle, rsp := some ⟨.stopped, 0x0000#16⟩, rpt := none,
        events := s.events ++ [.response ⟨.stopped, 0x0000#16⟩] }
      else { s with pc := next, rsp := none, rpt := none }))) ∧
  (∀ s t : State, s.pc.inHandshake = true ∨ s.pc.inIteration = true → s.topState ≠ .stopped → step s = .next t →
    t.topState ≠ .stopped)

/-- R180: only the timer ends a SLEEP, without a transaction; a cancellation seen by then is taken at the RUN_CHK_HEAD
that follows. -/
def Obligations.OnlyTheTimerEndsASleep : Prop :=
  (∀ s : State, s.pins.rstN = true → s.breq = none → s.pc = .sleep →
    step s = .next (State.endStep { s with
      pc := if s.pins.timer then .runChkHead else .sleep, rsp := none, rpt := none })) ∧
  (∀ s : State, s.pins.rstN = true → s.breq = none → s.pc = .sleep → s.pins.timer = true →
    (s.cancelReq || s.pins.cancel) = true → (∀ p ∈ s.env, p.rstN = true) →
    ∃ t, runTicks 2 s = .next t ∧ t.topState = .stopped ∧ t.pc = .idle ∧ t.inRun = false ∧
      t.rsp = some ⟨.stopped, 0x0000#16⟩ ∧ transactionsOf t.events = transactionsOf s.events)

/-- R186, the end-to-end property: a RUN at its loop head whose first iteration sees DATA_READY with a block and whose
second sees ERROR alone; the reports are the reading and the decoded fault, and the store keeps the first iteration's
values. -/
def Obligations.RunReportsReadingThenFault : Prop :=
  ∀ (s : State) (st1 blk st2 er : Word),
    s.pc = .runChkHead → s.topState = .polling → s.inRun = true → s.cancelReq = false → s.breq = none →
    st1.getLsbD 27 = true → st2.getLsbD 27 = false → st2.getLsbD 24 = true →
    ∃ u t,
      runTicks 3 (s.withInputs [Inputs.quiet, Inputs.answering ⟨false, st1⟩, Inputs.answering ⟨false, blk⟩,
        Inputs.quiet, { Inputs.quiet with timer := true }, Inputs.quiet, Inputs.answering ⟨false, st2⟩,
        Inputs.answering ⟨false, er⟩]) = .next u ∧
      reportsOf u.events = reportsOf s.events ++ [.reading (blk.extractLsb' 16 16) (blk.extractLsb' 0 16)] ∧
      u.readingCo2 = blk.extractLsb' 16 16 ∧ u.readingTvoc = blk.extractLsb' 0 16 ∧ u.readingValid = true ∧
      runTicks 5 u = .next t ∧
      reportsOf t.events = reportsOf u.events ++ [.fault (decodeErrorByte (er.extractLsb' 24 8))] ∧
      t.readingCo2 = u.readingCo2 ∧ t.readingTvoc = u.readingTvoc ∧ t.readingValid = true ∧
      t.topState = .polling ∧ t.faultCode = s.faultCode ∧ t.pc = .runChkPre

/-! ## The error decoder -/

/-- R201: the closed form. -/
def Obligations.DecoderClosedForm : Prop :=
  ∀ e : Byte, (decodeErrorByte e).code.toNat =
    if e.extractLsb' 0 6 = 0#6 then 0 else Nat.log2 (e.extractLsb' 0 6).toNat + 1

/-- R203 and R204: bits 6 and 7 are ignored, and the priority laws. -/
def Obligations.DecoderPriorityLaws : Prop :=
  (∀ e : Byte, decodeErrorByte e = decodeErrorByte (e &&& 0x3F#8)) ∧
  decodeErrorByte 0b100000#8 = .heaterSupply ∧ decodeErrorByte 0b111111#8 = .heaterSupply ∧
  decodeErrorByte 0b000001#8 = .msgInvalid ∧ decodeErrorByte 0x00#8 = .noFault

/-- R206: setting a lower bit, or bit 6 or 7, keeps the kind; setting a higher bit of 5:0 gives that bit's kind. -/
def Obligations.DecoderMonotone : Prop :=
  ∀ (e : Byte) (i : Nat), decodeErrorByte e ≠ .noFault → i < 8 →
    (i + 1 < (decodeErrorByte e).code.toNat ∨ i = 6 ∨ i = 7 →
      decodeErrorByte (e ||| (1#8 <<< i)) = decodeErrorByte e) ∧
    ((decodeErrorByte e).code.toNat < i + 1 → i ≤ 5 →
      (decodeErrorByte (e ||| (1#8 <<< i))).code.toNat = i + 1)

/-! ## Bus transactions in general -/

/-- R221: whatever the transaction and wherever the sequencer stands, `BusError` is followed in the same step by session
fault BUS_ERROR, and the transaction leaves nothing but its record. -/
def Obligations.BusErrorTakesSessionFault : Prop :=
  ∀ (s : State) (i : Instr) (w : Word) (d : Word), encode i = .busRequest w → s.pins.bus = some ⟨true, d⟩ →
    exec i s = .next (if s.pc = .idle ∨ s.pc = .openBus
      then { s with
        breq := none, faultCode := .busError, topState := .faulted, inRun := false, pc := .idle,
        events := s.events ++ [.bus w .busError] }
      else { s with
        breq := none, faultCode := .busError, topState := .faulted, inRun := false, pc := .idle,
        rsp := some ⟨.fault, 0x0001#16⟩,
        events := s.events ++ [.bus w .busError, .response ⟨.fault, 0x0001#16⟩] })

/-- R266: while the bus agent does not answer, the transaction stays outstanding: after any number of ticks without answer
or reset the controller stands at the same label, in the same session state, with the same record. -/
def Obligations.UnansweredTransactionHangs : Prop :=
  ∀ (n : Nat) (s : State) (i : Instr), s.labelTransaction = some i → busFits s = true →
    (∀ p ∈ s.pins :: s.env, p.rstN = true ∧ p.bus = none) →
    ∃ t, runTicks n s = .next t ∧ t.pc = s.pc ∧ t.topState = s.topState ∧ t.faultCode = s.faultCode ∧
      t.events = s.events

/-- OPEN completes in every state: the handle is held, and at the OPEN label the sequencer goes to IDLE. The operands may
be any (the model's choice of log 12); nothing else changes. -/
def Obligations.OpenCompletes : Prop :=
  ∀ (s : State) (bus : BitVec 8) (addr : BitVec 7) (d : Word), s.pins.bus = some ⟨false, d⟩ →
    exec (.openHandle bus addr) s = .next { s with
      handleValid := true, breq := none, pc := if s.pc = .openBus then .idle else s.pc,
      events := s.events ++ [.bus (0x00#8 ++ bus ++ 0x00#8 ++ 0#1 ++ addr) .done] }

/-- READ_BYTE completes in every state, at every address, and its frame: the latch of R32 for the address and no other,
one transaction recorded, no reading stored. Where the label at `pc` does not issue it, nothing of the sequencer changes
(the model's choice of log 6). `id` is latched also where the identity test then fails (the model's reading, log 11). -/
def Obligations.ReadByteCompletes : Prop :=
  ∀ (s : State) (a : Byte) (d : Word), s.pins.bus = some ⟨false, d⟩ →
    ∃ t, exec (.readByte a) s = .next t ∧
      t.st = (if a = 0x00#8 then d.extractLsb' 24 8 else s.st) ∧
      t.mm = (if a = 0x01#8 then d.extractLsb' 24 8 else s.mm) ∧
      t.id = (if a = 0x20#8 then d.extractLsb' 24 8 else s.id) ∧
      t.er = (if a = 0xE0#8 then d.extractLsb' 24 8 else s.er) ∧
      t.blk = s.blk ∧ t.breq = none ∧ t.curOp = s.curOp ∧ t.curArg = s.curArg ∧ t.handleValid = s.handleValid ∧
      t.cancelReq = s.cancelReq ∧ t.readingCo2 = s.readingCo2 ∧ t.readingTvoc = s.readingTvoc ∧
      t.readingValid = s.readingValid ∧ t.pins = s.pins ∧ t.env = s.env ∧
      transactionsOf t.events =
        transactionsOf s.events ++ [(0x10#8 ++ a ++ 0x0000#16, .byte (d.extractLsb' 24 8))] ∧
      (s.labelTransaction ≠ some (.readByte a) →
        t.pc = s.pc ∧ t.topState = s.topState ∧ t.inRun = s.inRun ∧ t.faultCode = s.faultCode ∧ t.rsp = s.rsp ∧
        t.rpt = s.rpt)

/-- READ_BLOCK of R114's lengths completes in every state, and its frame: the bytes delivered go to `blk` in order, the
rest of `blk` and every other latch stay, and the reading store changes at POLL_DATA only. That it completes, with
nothing of the sequencer changed, where the label at `pc` does not issue it is the model's choice (log 6). -/
def Obligations.ReadBlockCompletes : Prop :=
  ∀ (s : State) (a len : Byte) (d : Word), (Instr.readBlock a len).wf = true → s.pins.bus = some ⟨false, d⟩ →
    ∃ t bs, exec (.readBlock a len) s = .next t ∧
      bs = [d.extractLsb' 24 8, d.extractLsb' 16 8, d.extractLsb' 8 8, d.extractLsb' 0 8].take len.toNat ∧
      bs.length = len.toNat ∧
      [t.blk.b0, t.blk.b1, t.blk.b2, t.blk.b3] =
        bs ++ [s.blk.b0, s.blk.b1, s.blk.b2, s.blk.b3].drop len.toNat ∧
      t.id = s.id ∧ t.st = s.st ∧ t.er = s.er ∧ t.mm = s.mm ∧ t.breq = none ∧ t.curOp = s.curOp ∧
      t.curArg = s.curArg ∧ t.handleValid = s.handleValid ∧ t.cancelReq = s.cancelReq ∧ t.topState = s.topState ∧
      t.inRun = s.inRun ∧ t.faultCode = s.faultCode ∧ t.pins = s.pins ∧ t.env = s.env ∧
      transactionsOf t.events = transactionsOf s.events ++ [(0x20#8 ++ a ++ len ++ 0x00#8, .block bs)] ∧
      (s.pc ≠ .pollData → t.readingCo2 = s.readingCo2 ∧ t.readingTvoc = s.readingTvoc ∧
        t.readingValid = s.readingValid ∧ t.rpt = s.rpt) ∧
      (s.labelTransaction ≠ some (.readBlock a len) → t.pc = s.pc ∧ t.rsp = s.rsp ∧ t.rpt = s.rpt ∧
        t.readingCo2 = s.readingCo2 ∧ t.readingTvoc = s.readingTvoc ∧ t.readingValid = s.readingValid)

/-- WRITE_BYTE and WRITE_COMMAND complete in every state, with every operand, and their frame: one transaction recorded,
no latch, no reading, no session register written. That they complete, with nothing of the sequencer changed, where the
label at `pc` does not issue them is the model's choice (log 6). -/
def Obligations.WritesComplete : Prop :=
  ∀ (s : State) (i : Instr) (d w : Word), s.pins.bus = some ⟨false, d⟩ →
    (∃ a v, i = .writeByte a v ∧ w = 0x30#8 ++ a ++ 0x00#8 ++ v) ∨
      (∃ c, i = .writeCommand c ∧ w = 0x40#8 ++ c ++ 0x0000#16) →
    ∃ t, exec i s = .next t ∧
      t.id = s.id ∧ t.st = s.st ∧ t.er = s.er ∧ t.mm = s.mm ∧ t.blk = s.blk ∧ t.breq = none ∧ t.curOp = s.curOp ∧
      t.curArg = s.curArg ∧ t.handleValid = s.handleValid ∧ t.cancelReq = s.cancelReq ∧ t.topState = s.topState ∧
      t.inRun = s.inRun ∧ t.faultCode = s.faultCode ∧ t.readingCo2 = s.readingCo2 ∧
      t.readingTvoc = s.readingTvoc ∧ t.readingValid = s.readingValid ∧ t.rpt = s.rpt ∧ t.pins = s.pins ∧
      t.env = s.env ∧ transactionsOf t.events = transactionsOf s.events ++ [(w, .done)] ∧
      (s.labelTransaction ≠ some i → t.pc = s.pc ∧ t.rsp = s.rsp)

/-- The bits of an answer that its transaction does not deliver change nothing (R115): with an error every bit, for OPEN
and the writes every bit, for a READ_BYTE all but b[0], for a READ_BLOCK all past its length. -/
def Obligations.IgnoredAnswerBitsHaveNoEffect : Prop :=
  ∀ (s : State) (e : Bool) (d d' : Word) (i : Instr), s.fetch = .instr i →
    (e = true ∨ (∃ b a, i = .openHandle b a) ∨ (∃ a v, i = .writeByte a v) ∨ (∃ c, i = .writeCommand c) ∨
      (∃ a, i = .readByte a ∧ d.extractLsb' 24 8 = d'.extractLsb' 24 8) ∨
      (∃ a len, i = .readBlock a len ∧
        ∀ k : Nat, k < len.toNat → k < 4 → d.extractLsb' (24 - 8 * k) 8 = d'.extractLsb' (24 - 8 * k) 8)) →
    step { s with pins := { s.pins with bus := some ⟨e, d⟩ } } =
      step { s with pins := { s.pins with bus := some ⟨e, d'⟩ } }

/-- The status bits no rule tests, 1, 2, 5, 6 and 7, change no decision (R33): two answers to a status read that agree on
bits 0, 3 and 4 lead to the same label, session state, fault code, ports and reading store. -/
def Obligations.UntestedStatusBitsHaveNoEffect : Prop :=
  ∀ (s t t' : State) (d d' : Word), s.fetch = .instr (.readByte 0x00#8) →
    d.getLsbD 24 = d'.getLsbD 24 → d.getLsbD 27 = d'.getLsbD 27 → d.getLsbD 28 = d'.getLsbD 28 →
    step { s with pins := { s.pins with bus := some ⟨false, d⟩ } } = .next t →
    step { s with pins := { s.pins with bus := some ⟨false, d'⟩ } } = .next t' →
    t.pc = t'.pc ∧ t.inRun = t'.inRun ∧ t.outputs = t'.outputs ∧
      reportsOf t.events = reportsOf t'.events ∧ responsesOf t.events = responsesOf t'.events

/-! ## Reset -/

/-- R45: what the spec gives for the registers after reset and before the OPEN step. The registers it leaves unspecified
are not mentioned. -/
def Obligations.ResetValues : Prop :=
  State.reset.topState.code = 0#3 ∧ State.reset.pc.code = 0x01#5 ∧ State.reset.inRun = false ∧
  State.reset.handleValid = false ∧ State.reset.faultCode.code = 0#4 ∧ State.reset.cancelReq = false ∧
  State.reset.readingValid = false ∧ State.reset.rsp = none ∧ State.reset.rpt = none ∧
  State.reset.cmdReady = false ∧ State.reset.observeCo2 = .fault .readingHasNoValue ∧
  State.reset.observeTvoc = .fault .readingHasNoValue

/-- R250: a step with `rst_n = 0`, from every state, whatever else it is given, leaves the reset values, no transaction,
no response, no report (the record gains nothing), and no request outstanding; and it is the only way out of FAULTED and
STOPPED. -/
def Obligations.ResetFromEveryState : Prop :=
  (∀ s : State, s.pins.rstN = false →
    ∃ t, step s = .next t ∧ t.topState = .uninitialized ∧ t.pc = .openBus ∧ t.inRun = false ∧
      t.handleValid = false ∧ t.faultCode = .none ∧ t.cancelReq = false ∧ t.readingValid = false ∧ t.rsp = none ∧
      t.rpt = none ∧ t.cmdReady = false ∧ t.breq = none ∧ t.events = s.events) ∧
  (∀ s t : State, s.Inv → s.pins.rstN = true → s.topState = .faulted ∨ s.topState = .stopped → step s = .next t →
    t.topState = s.topState)

/-! ## The whole machine -/

/-- A step out of reset is the meaning of the instruction whose word is on the port it is fetched from: the outstanding
bus request, else the label's request, else, at IDLE, the command presented; between the end of the last step's pulses
and the latching of `cancel` and the sampling of the next pins. -/
def Obligations.StepRunsDecodedInstruction : Prop :=
  ∀ (s : State) (p : PortWord) (i : Instr), s.pins.rstN = true → s.portWord = some p → decode p = .ok i →
    step s = mapNext
      (fun t => { t with
        cancelReq := t.cancelReq || t.pins.cancel, pins := t.env.headD Inputs.quiet, env := t.env.tail })
      (exec i { s with rsp := none, rpt := none })

/-- Every instruction answers a next state, in every state: no meaning stops. For words the controller never issues and
states no run reaches this is the model's choice and no rule of the spec: a transaction the label at `pc` does not issue
(log 6), a READ_BLOCK length outside 1 to 4 (log 7), OPEN with any operands anywhere (log 12), and CONFIGURING at IDLE
(log 16). -/
def Obligations.EveryMeaningAnswers : Prop := ∀ (i : Instr) (s : State), ∃ t, exec i s = .next t

/-- The session invariant holds after reset, whatever the inputs to come. -/
def Obligations.SessionInvariantAtReset : Prop := ∀ ps : List Inputs, (State.reset.withInputs ps).Inv

/-- Every step keeps the session invariant: the session state, `in_run`, `fault_code`, the handle, the reading store, the
outstanding request, the tested latches and `cur_op` fit the label at `pc`. -/
def Obligations.StepKeepsSessionInvariant : Prop := ∀ s t : State, s.Inv → step s = .next t → t.Inv

/-- A machine in the session invariant always has a next state: no fault, no refusal. -/
def Obligations.StepNeverStops : Prop := ∀ s : State, s.Inv → ∃ t, step s = .next t

/-- R21: the transitions of `top_state`, each with its cause; no other exists. -/
def Obligations.OnlyListedSessionTransitions : Prop :=
  ∀ s t : State, s.Inv → s.pins.rstN = true → step s = .next t → t.topState ≠ s.topState →
    (s.topState = .uninitialized ∧ t.topState = .configuring ∧ s.pc = .idle ∧
      (s.pins.cmd = some 0x0100#16 ∨ s.pins.cmd = some 0x0500#16)) ∨
    (s.topState = .configuring ∧ t.topState = .polling ∧ s.pc = .cfgStMode ∧ statusError t.st = false) ∨
    (s.topState ≠ .faulted ∧ s.topState ≠ .stopped ∧ t.topState = .faulted ∧ t.faultCode ≠ .none) ∨
    ((s.topState = .uninitialized ∨ s.topState = .polling) ∧ t.topState = .stopped ∧ s.cancelReq = true)

/-- R224: while FAULTED, without reset, the session stays FAULTED with the same fault code and issues nothing; every
command but DECODE is REJECTED. -/
def Obligations.FaultedUntilReset : Prop :=
  ∀ s : State, s.Inv → s.pins.rstN = true → s.topState = .faulted →
    ∃ t, step s = .next t ∧ t.topState = .faulted ∧ t.faultCode = s.faultCode ∧ t.pc = .idle ∧
      transactionsOf t.events = transactionsOf s.events ∧
      t.rsp = (match s.pins.cmd with
        | none => none
        | some w =>
          if opField w = 0x06#8 then some ⟨.ok, (decodeErrorByte (argField w)).code.setWidth 16⟩
          else some ⟨.rejected, 0x0000#16⟩)

/-- R108: the codes, and exactly one response for each accepted command, in the step that completes it, on the port for
that one step. -/
def Obligations.OneResponsePerCommand : Prop :=
  RspCode.ok.code = 0#2 ∧ RspCode.fault.code = 1#2 ∧ RspCode.rejected.code = 2#2 ∧ RspCode.stopped.code = 3#2 ∧
  ∀ s t : State, s.Inv → s.pins.rstN = true → step s = .next t →
    responsesOf t.events = responsesOf s.events ++ t.rsp.toList ∧
    (t.rsp.isSome = true ↔
      t.pc = .idle ∧ ((s.pc ≠ .idle ∧ s.pc ≠ .openBus) ∨ (s.accepting ∧ s.pins.cmd.isSome = true)))

/-- R111: reports are emitted at the three error-byte reads of the handshake, at POLL_DATA and at POLL_ERR, one each, and
nowhere else. -/
def Obligations.ReportsOnlyWhereListed : Prop :=
  ∀ s t : State, s.Inv → s.pins.rstN = true → step s = .next t →
    t.rpt = reportAt s.pc s.pins.bus ∧ reportsOf t.events = reportsOf s.events ++ t.rpt.toList

/-- R31: the reading store is overwritten by each data branch with the block's two values, and by nothing else. -/
def Obligations.OnlyTheDataBranchWritesReadings : Prop :=
  ∀ s t : State, s.Inv → s.pins.rstN = true → step s = .next t →
    match s.pc, s.pins.bus with
    | .pollData, some ⟨false, d⟩ =>
      t.readingCo2 = d.extractLsb' 16 16 ∧ t.readingTvoc = d.extractLsb' 0 16 ∧ t.readingValid = true
    | _, _ => t.readingCo2 = s.readingCo2 ∧ t.readingTvoc = s.readingTvoc ∧ t.readingValid = s.readingValid

/-- R116: a step issues the request word of its label, completed where the agent answers, and no other word. -/
def Obligations.OnlyListedRequestsAreIssued : Prop :=
  ∀ s t : State, s.Inv → s.pins.rstN = true → step s = .next t →
    ((transactionsOf t.events).map Prod.fst = (transactionsOf s.events).map Prod.fst ++
      (if s.pins.bus.isSome then s.requestWord.toList else [])) ∧
    (t.breq = if s.pins.bus.isSome then none else s.requestWord)

/-- R27: `fault_code` is written at fault entry only, once, and cleared by reset only. -/
def Obligations.FaultCodeIsWrittenOnce : Prop :=
  ∀ s t : State, s.Inv → s.pins.rstN = true → step s = .next t → t.faultCode ≠ s.faultCode →
    s.faultCode = .none ∧ t.faultCode ≠ .none ∧ s.topState ≠ .faulted ∧ t.topState = .faulted

/-- R26: `handle_valid` is set by the success of OPEN only and never cleared within a session. -/
def Obligations.HandleIsNeverCleared : Prop :=
  ∀ s t : State, s.Inv → s.pins.rstN = true → step s = .next t →
    (s.handleValid = true → t.handleValid = true) ∧
    (s.handleValid = false → (t.handleValid = true ↔ s.pc = .openBus ∧ ∃ d, s.pins.bus = some ⟨false, d⟩))

/-- R112: `cancel` sets the latch in any step and has no other effect in it; the step's tests see the latch as it was. -/
def Obligations.CancelOnlySetsTheLatch : Prop :=
  (∀ s t : State, s.pins.rstN = true → step s = .next t → t.cancelReq = (s.cancelReq || s.pins.cancel)) ∧
  (∀ (s : State) (b : Bool), s.pins.rstN = true →
    step { s with pins := { s.pins with cancel := b } } =
      mapNext (fun t => { t with cancelReq := s.cancelReq || b }) (step s))

/-- R30: an observation of a reading field while `reading_valid = 0` is a fault, and a value from the first write on;
`reading_valid` stays 1 without reset. -/
def Obligations.InvalidReadingFaultsTheObservation : Prop :=
  (∀ s : State, s.readingValid = false →
    s.observeCo2 = .fault .readingHasNoValue ∧ s.observeTvoc = .fault .readingHasNoValue) ∧
  (∀ s : State, s.readingValid = true →
    s.observeCo2 = .value s.readingCo2 ∧ s.observeTvoc = .value s.readingTvoc) ∧
  (∀ s t : State, s.pins.rstN = true → s.readingValid = true → step s = .next t → t.readingValid = true)
end

