-- ==== Sys2Proof/Laws/Decode.lean ====
section
/-! SUPPORT. The fields of an encoded word: each field reads back what the encoder put there. -/

namespace Sys2Proof

@[simp] theorem opField_commandWord (op arg : Byte) : opField (commandWord op arg) = op := by
  simp only [opField, commandWord, BitVec.extractLsb'_append_eq_left]

@[simp] theorem argField_commandWord (op arg : Byte) : argField (commandWord op arg) = arg := by
  simp only [argField, commandWord, BitVec.extractLsb'_append_eq_right]

/-- A command word is its two fields. -/
theorem commandWord_fields (w : Half) : commandWord (opField w) (argField w) = w := by
  simp only [commandWord, opField, argField]
  ext i hi
  rw [BitVec.getElem_append]
  split
  · rw [BitVec.getElem_extractLsb', Nat.zero_add, BitVec.getLsbD_eq_getElem (by omega)]
  · rw [BitVec.getElem_extractLsb', BitVec.getLsbD_eq_getElem (by omega)]
    congr 1
    omega

/-- Dropping the low byte of a word whose low byte was appended. -/
theorem extract_above_low_byte (x : BitVec 24) (v : Byte) (k n : Nat) :
    ((x ++ v : Word)).extractLsb' (8 + k) n = x.extractLsb' k n := by
  ext i hi
  rw [BitVec.getElem_extractLsb', BitVec.getElem_extractLsb', BitVec.getLsbD_append, if_neg (by omega)]
  congr 1
  omega

@[simp] theorem kindField_busWord (k : BitVec 4) (a l v : Byte) : kindField (busWord k a l v) = k := by
  ext i hi
  simp only [kindField, busWord, BitVec.getElem_extractLsb']
  rw [BitVec.getLsbD_append, BitVec.getLsbD_append, BitVec.getLsbD_append, BitVec.getLsbD_append,
    if_neg (by omega), if_neg (by omega), if_neg (by omega), if_neg (by omega), BitVec.getLsbD_eq_getElem (by omega)]
  congr 1
  omega

@[simp] theorem zeroField_busWord (k : BitVec 4) (a l v : Byte) : zeroField (busWord k a l v) = 0#4 := by
  ext i hi
  simp only [zeroField, busWord, BitVec.getElem_extractLsb']
  rw [BitVec.getLsbD_append, BitVec.getLsbD_append, BitVec.getLsbD_append, BitVec.getLsbD_append,
    if_neg (by omega), if_neg (by omega), if_neg (by omega), if_pos (by omega)]
  simp

@[simp] theorem aField_busWord (k : BitVec 4) (a l v : Byte) : aField (busWord k a l v) = a := by
  ext i hi
  simp only [aField, busWord, BitVec.getElem_extractLsb']
  rw [BitVec.getLsbD_append, BitVec.getLsbD_append, BitVec.getLsbD_append,
    if_neg (by omega), if_neg (by omega), if_pos (by omega), BitVec.getLsbD_eq_getElem (by omega)]
  congr 1
  omega

@[simp] theorem lField_busWord (k : BitVec 4) (a l v : Byte) : lField (busWord k a l v) = l := by
  ext i hi
  simp only [lField, busWord, BitVec.getElem_extractLsb']
  rw [BitVec.getLsbD_append, BitVec.getLsbD_append,
    if_neg (by omega), if_pos (by omega), BitVec.getLsbD_eq_getElem (by omega)]
  congr 1
  omega

@[simp] theorem vField_busWord (k : BitVec 4) (a l v : Byte) : vField (busWord k a l v) = v := by
  ext i hi
  simp only [vField, busWord, BitVec.getElem_extractLsb']
  rw [BitVec.getLsbD_append, if_pos (by omega), BitVec.getLsbD_eq_getElem (by omega)]
  congr 1
  omega

/-- The device address of an OPEN word (R114). -/
@[simp] theorem extract_openAddr (addr : BitVec 7) : (0#1 ++ addr : Byte).extractLsb' 0 7 = addr :=
  BitVec.extractLsb'_append_eq_right

/-- The bit above the device address of an OPEN word is zero (R114). -/
@[simp] theorem openAddr_top (addr : BitVec 7) : (0#1 ++ addr : Byte)[7] = false := by
  rw [BitVec.getElem_append, dif_neg (by omega)]
  rfl

end Sys2Proof
end

