-- ==== Sys2Proof/Laws/State.lean ====
section
/-! SUPPORT. One lemma per field per named update of State, each by rfl. -/

namespace Sys2Proof.Machine

/-- `POLL_INTERVAL` is a positive duration (R11), whatever the open constant is. -/
theorem pollInterval_pos : 0 < Config.pollInterval := Nat.succ_pos _

/-! goto -/

@[simp] theorem State.goto_topState (s : State) (l : Label) : (s.goto l).topState = s.topState := rfl
@[simp] theorem State.goto_pc (s : State) (l : Label) : (s.goto l).pc = l := rfl
@[simp] theorem State.goto_inRun (s : State) (l : Label) : (s.goto l).inRun = s.inRun := rfl
@[simp] theorem State.goto_curOp (s : State) (l : Label) : (s.goto l).curOp = s.curOp := rfl
@[simp] theorem State.goto_curArg (s : State) (l : Label) : (s.goto l).curArg = s.curArg := rfl
@[simp] theorem State.goto_handleValid (s : State) (l : Label) : (s.goto l).handleValid = s.handleValid := rfl
@[simp] theorem State.goto_faultCode (s : State) (l : Label) : (s.goto l).faultCode = s.faultCode := rfl
@[simp] theorem State.goto_cancelReq (s : State) (l : Label) : (s.goto l).cancelReq = s.cancelReq := rfl
@[simp] theorem State.goto_readingCo2 (s : State) (l : Label) : (s.goto l).readingCo2 = s.readingCo2 := rfl
@[simp] theorem State.goto_readingTvoc (s : State) (l : Label) : (s.goto l).readingTvoc = s.readingTvoc := rfl
@[simp] theorem State.goto_readingValid (s : State) (l : Label) : (s.goto l).readingValid = s.readingValid := rfl
@[simp] theorem State.goto_id (s : State) (l : Label) : (s.goto l).id = s.id := rfl
@[simp] theorem State.goto_st (s : State) (l : Label) : (s.goto l).st = s.st := rfl
@[simp] theorem State.goto_er (s : State) (l : Label) : (s.goto l).er = s.er := rfl
@[simp] theorem State.goto_mm (s : State) (l : Label) : (s.goto l).mm = s.mm := rfl
@[simp] theorem State.goto_blk (s : State) (l : Label) : (s.goto l).blk = s.blk := rfl
@[simp] theorem State.goto_breq (s : State) (l : Label) : (s.goto l).breq = s.breq := rfl
@[simp] theorem State.goto_rsp (s : State) (l : Label) : (s.goto l).rsp = s.rsp := rfl
@[simp] theorem State.goto_rpt (s : State) (l : Label) : (s.goto l).rpt = s.rpt := rfl
@[simp] theorem State.goto_events (s : State) (l : Label) : (s.goto l).events = s.events := rfl
@[simp] theorem State.goto_pins (s : State) (l : Label) : (s.goto l).pins = s.pins := rfl
@[simp] theorem State.goto_env (s : State) (l : Label) : (s.goto l).env = s.env := rfl

/-! respond -/

@[simp] theorem State.respond_topState (s : State) (c : RspCode) (d : Half) : (s.respond c d).topState = s.topState := rfl
@[simp] theorem State.respond_pc (s : State) (c : RspCode) (d : Half) : (s.respond c d).pc = s.pc := rfl
@[simp] theorem State.respond_inRun (s : State) (c : RspCode) (d : Half) : (s.respond c d).inRun = s.inRun := rfl
@[simp] theorem State.respond_curOp (s : State) (c : RspCode) (d : Half) : (s.respond c d).curOp = s.curOp := rfl
@[simp] theorem State.respond_curArg (s : State) (c : RspCode) (d : Half) : (s.respond c d).curArg = s.curArg := rfl
@[simp] theorem State.respond_handleValid (s : State) (c : RspCode) (d : Half) : (s.respond c d).handleValid = s.handleValid := rfl
@[simp] theorem State.respond_faultCode (s : State) (c : RspCode) (d : Half) : (s.respond c d).faultCode = s.faultCode := rfl
@[simp] theorem State.respond_cancelReq (s : State) (c : RspCode) (d : Half) : (s.respond c d).cancelReq = s.cancelReq := rfl
@[simp] theorem State.respond_readingCo2 (s : State) (c : RspCode) (d : Half) : (s.respond c d).readingCo2 = s.readingCo2 := rfl
@[simp] theorem State.respond_readingTvoc (s : State) (c : RspCode) (d : Half) : (s.respond c d).readingTvoc = s.readingTvoc := rfl
@[simp] theorem State.respond_readingValid (s : State) (c : RspCode) (d : Half) : (s.respond c d).readingValid = s.readingValid := rfl
@[simp] theorem State.respond_id (s : State) (c : RspCode) (d : Half) : (s.respond c d).id = s.id := rfl
@[simp] theorem State.respond_st (s : State) (c : RspCode) (d : Half) : (s.respond c d).st = s.st := rfl
@[simp] theorem State.respond_er (s : State) (c : RspCode) (d : Half) : (s.respond c d).er = s.er := rfl
@[simp] theorem State.respond_mm (s : State) (c : RspCode) (d : Half) : (s.respond c d).mm = s.mm := rfl
@[simp] theorem State.respond_blk (s : State) (c : RspCode) (d : Half) : (s.respond c d).blk = s.blk := rfl
@[simp] theorem State.respond_breq (s : State) (c : RspCode) (d : Half) : (s.respond c d).breq = s.breq := rfl
@[simp] theorem State.respond_rsp (s : State) (c : RspCode) (d : Half) : (s.respond c d).rsp = some ⟨c, d⟩ := rfl
@[simp] theorem State.respond_rpt (s : State) (c : RspCode) (d : Half) : (s.respond c d).rpt = s.rpt := rfl
@[simp] theorem State.respond_events (s : State) (c : RspCode) (d : Half) : (s.respond c d).events = s.events ++ [.response ⟨c, d⟩] := rfl
@[simp] theorem State.respond_pins (s : State) (c : RspCode) (d : Half) : (s.respond c d).pins = s.pins := rfl
@[simp] theorem State.respond_env (s : State) (c : RspCode) (d : Half) : (s.respond c d).env = s.env := rfl

/-! emit -/

@[simp] theorem State.emit_topState (s : State) (r : Report) : (s.emit r).topState = s.topState := rfl
@[simp] theorem State.emit_pc (s : State) (r : Report) : (s.emit r).pc = s.pc := rfl
@[simp] theorem State.emit_inRun (s : State) (r : Report) : (s.emit r).inRun = s.inRun := rfl
@[simp] theorem State.emit_curOp (s : State) (r : Report) : (s.emit r).curOp = s.curOp := rfl
@[simp] theorem State.emit_curArg (s : State) (r : Report) : (s.emit r).curArg = s.curArg := rfl
@[simp] theorem State.emit_handleValid (s : State) (r : Report) : (s.emit r).handleValid = s.handleValid := rfl
@[simp] theorem State.emit_faultCode (s : State) (r : Report) : (s.emit r).faultCode = s.faultCode := rfl
@[simp] theorem State.emit_cancelReq (s : State) (r : Report) : (s.emit r).cancelReq = s.cancelReq := rfl
@[simp] theorem State.emit_readingCo2 (s : State) (r : Report) : (s.emit r).readingCo2 = s.readingCo2 := rfl
@[simp] theorem State.emit_readingTvoc (s : State) (r : Report) : (s.emit r).readingTvoc = s.readingTvoc := rfl
@[simp] theorem State.emit_readingValid (s : State) (r : Report) : (s.emit r).readingValid = s.readingValid := rfl
@[simp] theorem State.emit_id (s : State) (r : Report) : (s.emit r).id = s.id := rfl
@[simp] theorem State.emit_st (s : State) (r : Report) : (s.emit r).st = s.st := rfl
@[simp] theorem State.emit_er (s : State) (r : Report) : (s.emit r).er = s.er := rfl
@[simp] theorem State.emit_mm (s : State) (r : Report) : (s.emit r).mm = s.mm := rfl
@[simp] theorem State.emit_blk (s : State) (r : Report) : (s.emit r).blk = s.blk := rfl
@[simp] theorem State.emit_breq (s : State) (r : Report) : (s.emit r).breq = s.breq := rfl
@[simp] theorem State.emit_rsp (s : State) (r : Report) : (s.emit r).rsp = s.rsp := rfl
@[simp] theorem State.emit_rpt (s : State) (r : Report) : (s.emit r).rpt = some r := rfl
@[simp] theorem State.emit_events (s : State) (r : Report) : (s.emit r).events = s.events ++ [.report r] := rfl
@[simp] theorem State.emit_pins (s : State) (r : Report) : (s.emit r).pins = s.pins := rfl
@[simp] theorem State.emit_env (s : State) (r : Report) : (s.emit r).env = s.env := rfl

/-! completeBus -/

@[simp] theorem State.completeBus_topState (s : State) (w : Word) (r : BusResult) : (s.completeBus w r).topState = s.topState := rfl
@[simp] theorem State.completeBus_pc (s : State) (w : Word) (r : BusResult) : (s.completeBus w r).pc = s.pc := rfl
@[simp] theorem State.completeBus_inRun (s : State) (w : Word) (r : BusResult) : (s.completeBus w r).inRun = s.inRun := rfl
@[simp] theorem State.completeBus_curOp (s : State) (w : Word) (r : BusResult) : (s.completeBus w r).curOp = s.curOp := rfl
@[simp] theorem State.completeBus_curArg (s : State) (w : Word) (r : BusResult) : (s.completeBus w r).curArg = s.curArg := rfl
@[simp] theorem State.completeBus_handleValid (s : State) (w : Word) (r : BusResult) : (s.completeBus w r).handleValid = s.handleValid := rfl
@[simp] theorem State.completeBus_faultCode (s : State) (w : Word) (r : BusResult) : (s.completeBus w r).faultCode = s.faultCode := rfl
@[simp] theorem State.completeBus_cancelReq (s : State) (w : Word) (r : BusResult) : (s.completeBus w r).cancelReq = s.cancelReq := rfl
@[simp] theorem State.completeBus_readingCo2 (s : State) (w : Word) (r : BusResult) : (s.completeBus w r).readingCo2 = s.readingCo2 := rfl
@[simp] theorem State.completeBus_readingTvoc (s : State) (w : Word) (r : BusResult) : (s.completeBus w r).readingTvoc = s.readingTvoc := rfl
@[simp] theorem State.completeBus_readingValid (s : State) (w : Word) (r : BusResult) : (s.completeBus w r).readingValid = s.readingValid := rfl
@[simp] theorem State.completeBus_id (s : State) (w : Word) (r : BusResult) : (s.completeBus w r).id = s.id := rfl
@[simp] theorem State.completeBus_st (s : State) (w : Word) (r : BusResult) : (s.completeBus w r).st = s.st := rfl
@[simp] theorem State.completeBus_er (s : State) (w : Word) (r : BusResult) : (s.completeBus w r).er = s.er := rfl
@[simp] theorem State.completeBus_mm (s : State) (w : Word) (r : BusResult) : (s.completeBus w r).mm = s.mm := rfl
@[simp] theorem State.completeBus_blk (s : State) (w : Word) (r : BusResult) : (s.completeBus w r).blk = s.blk := rfl
@[simp] theorem State.completeBus_breq (s : State) (w : Word) (r : BusResult) : (s.completeBus w r).breq = none := rfl
@[simp] theorem State.completeBus_rsp (s : State) (w : Word) (r : BusResult) : (s.completeBus w r).rsp = s.rsp := rfl
@[simp] theorem State.completeBus_rpt (s : State) (w : Word) (r : BusResult) : (s.completeBus w r).rpt = s.rpt := rfl
@[simp] theorem State.completeBus_events (s : State) (w : Word) (r : BusResult) : (s.completeBus w r).events = s.events ++ [.bus w r] := rfl
@[simp] theorem State.completeBus_pins (s : State) (w : Word) (r : BusResult) : (s.completeBus w r).pins = s.pins := rfl
@[simp] theorem State.completeBus_env (s : State) (w : Word) (r : BusResult) : (s.completeBus w r).env = s.env := rfl

/-! beginStep -/

@[simp] theorem State.beginStep_topState (s : State) : (s.beginStep).topState = s.topState := rfl
@[simp] theorem State.beginStep_pc (s : State) : (s.beginStep).pc = s.pc := rfl
@[simp] theorem State.beginStep_inRun (s : State) : (s.beginStep).inRun = s.inRun := rfl
@[simp] theorem State.beginStep_curOp (s : State) : (s.beginStep).curOp = s.curOp := rfl
@[simp] theorem State.beginStep_curArg (s : State) : (s.beginStep).curArg = s.curArg := rfl
@[simp] theorem State.beginStep_handleValid (s : State) : (s.beginStep).handleValid = s.handleValid := rfl
@[simp] theorem State.beginStep_faultCode (s : State) : (s.beginStep).faultCode = s.faultCode := rfl
@[simp] theorem State.beginStep_cancelReq (s : State) : (s.beginStep).cancelReq = s.cancelReq := rfl
@[simp] theorem State.beginStep_readingCo2 (s : State) : (s.beginStep).readingCo2 = s.readingCo2 := rfl
@[simp] theorem State.beginStep_readingTvoc (s : State) : (s.beginStep).readingTvoc = s.readingTvoc := rfl
@[simp] theorem State.beginStep_readingValid (s : State) : (s.beginStep).readingValid = s.readingValid := rfl
@[simp] theorem State.beginStep_id (s : State) : (s.beginStep).id = s.id := rfl
@[simp] theorem State.beginStep_st (s : State) : (s.beginStep).st = s.st := rfl
@[simp] theorem State.beginStep_er (s : State) : (s.beginStep).er = s.er := rfl
@[simp] theorem State.beginStep_mm (s : State) : (s.beginStep).mm = s.mm := rfl
@[simp] theorem State.beginStep_blk (s : State) : (s.beginStep).blk = s.blk := rfl
@[simp] theorem State.beginStep_breq (s : State) : (s.beginStep).breq = s.breq := rfl
@[simp] theorem State.beginStep_rsp (s : State) : (s.beginStep).rsp = none := rfl
@[simp] theorem State.beginStep_rpt (s : State) : (s.beginStep).rpt = none := rfl
@[simp] theorem State.beginStep_events (s : State) : (s.beginStep).events = s.events := rfl
@[simp] theorem State.beginStep_pins (s : State) : (s.beginStep).pins = s.pins := rfl
@[simp] theorem State.beginStep_env (s : State) : (s.beginStep).env = s.env := rfl

/-! idleCancel -/

@[simp] theorem State.idleCancel_topState (s : State) : (s.idleCancel).topState = .stopped := rfl
@[simp] theorem State.idleCancel_pc (s : State) : (s.idleCancel).pc = s.pc := rfl
@[simp] theorem State.idleCancel_inRun (s : State) : (s.idleCancel).inRun = s.inRun := rfl
@[simp] theorem State.idleCancel_curOp (s : State) : (s.idleCancel).curOp = s.curOp := rfl
@[simp] theorem State.idleCancel_curArg (s : State) : (s.idleCancel).curArg = s.curArg := rfl
@[simp] theorem State.idleCancel_handleValid (s : State) : (s.idleCancel).handleValid = s.handleValid := rfl
@[simp] theorem State.idleCancel_faultCode (s : State) : (s.idleCancel).faultCode = s.faultCode := rfl
@[simp] theorem State.idleCancel_cancelReq (s : State) : (s.idleCancel).cancelReq = s.cancelReq := rfl
@[simp] theorem State.idleCancel_readingCo2 (s : State) : (s.idleCancel).readingCo2 = s.readingCo2 := rfl
@[simp] theorem State.idleCancel_readingTvoc (s : State) : (s.idleCancel).readingTvoc = s.readingTvoc := rfl
@[simp] theorem State.idleCancel_readingValid (s : State) : (s.idleCancel).readingValid = s.readingValid := rfl
@[simp] theorem State.idleCancel_id (s : State) : (s.idleCancel).id = s.id := rfl
@[simp] theorem State.idleCancel_st (s : State) : (s.idleCancel).st = s.st := rfl
@[simp] theorem State.idleCancel_er (s : State) : (s.idleCancel).er = s.er := rfl
@[simp] theorem State.idleCancel_mm (s : State) : (s.idleCancel).mm = s.mm := rfl
@[simp] theorem State.idleCancel_blk (s : State) : (s.idleCancel).blk = s.blk := rfl
@[simp] theorem State.idleCancel_breq (s : State) : (s.idleCancel).breq = s.breq := rfl
@[simp] theorem State.idleCancel_rsp (s : State) : (s.idleCancel).rsp = s.rsp := rfl
@[simp] theorem State.idleCancel_rpt (s : State) : (s.idleCancel).rpt = s.rpt := rfl
@[simp] theorem State.idleCancel_events (s : State) : (s.idleCancel).events = s.events := rfl
@[simp] theorem State.idleCancel_pins (s : State) : (s.idleCancel).pins = s.pins := rfl
@[simp] theorem State.idleCancel_env (s : State) : (s.idleCancel).env = s.env := rfl

/-! latchCommand -/

@[simp] theorem State.latchCommand_topState (s : State) (w : Half) : (s.latchCommand w).topState = s.topState := rfl
@[simp] theorem State.latchCommand_pc (s : State) (w : Half) : (s.latchCommand w).pc = s.pc := rfl
@[simp] theorem State.latchCommand_inRun (s : State) (w : Half) : (s.latchCommand w).inRun = s.inRun := rfl
@[simp] theorem State.latchCommand_curOp (s : State) (w : Half) : (s.latchCommand w).curOp = opField w := rfl
@[simp] theorem State.latchCommand_curArg (s : State) (w : Half) : (s.latchCommand w).curArg = argField w := rfl
@[simp] theorem State.latchCommand_handleValid (s : State) (w : Half) : (s.latchCommand w).handleValid = s.handleValid := rfl
@[simp] theorem State.latchCommand_faultCode (s : State) (w : Half) : (s.latchCommand w).faultCode = s.faultCode := rfl
@[simp] theorem State.latchCommand_cancelReq (s : State) (w : Half) : (s.latchCommand w).cancelReq = s.cancelReq := rfl
@[simp] theorem State.latchCommand_readingCo2 (s : State) (w : Half) : (s.latchCommand w).readingCo2 = s.readingCo2 := rfl
@[simp] theorem State.latchCommand_readingTvoc (s : State) (w : Half) : (s.latchCommand w).readingTvoc = s.readingTvoc := rfl
@[simp] theorem State.latchCommand_readingValid (s : State) (w : Half) : (s.latchCommand w).readingValid = s.readingValid := rfl
@[simp] theorem State.latchCommand_id (s : State) (w : Half) : (s.latchCommand w).id = s.id := rfl
@[simp] theorem State.latchCommand_st (s : State) (w : Half) : (s.latchCommand w).st = s.st := rfl
@[simp] theorem State.latchCommand_er (s : State) (w : Half) : (s.latchCommand w).er = s.er := rfl
@[simp] theorem State.latchCommand_mm (s : State) (w : Half) : (s.latchCommand w).mm = s.mm := rfl
@[simp] theorem State.latchCommand_blk (s : State) (w : Half) : (s.latchCommand w).blk = s.blk := rfl
@[simp] theorem State.latchCommand_breq (s : State) (w : Half) : (s.latchCommand w).breq = s.breq := rfl
@[simp] theorem State.latchCommand_rsp (s : State) (w : Half) : (s.latchCommand w).rsp = s.rsp := rfl
@[simp] theorem State.latchCommand_rpt (s : State) (w : Half) : (s.latchCommand w).rpt = s.rpt := rfl
@[simp] theorem State.latchCommand_events (s : State) (w : Half) : (s.latchCommand w).events = s.events := rfl
@[simp] theorem State.latchCommand_pins (s : State) (w : Half) : (s.latchCommand w).pins = s.pins := rfl
@[simp] theorem State.latchCommand_env (s : State) (w : Half) : (s.latchCommand w).env = s.env := rfl

/-! latchBlock -/

@[simp] theorem State.latchBlock_topState (s : State) (d : Word) (n : Byte) : (s.latchBlock d n).topState = s.topState := rfl
@[simp] theorem State.latchBlock_pc (s : State) (d : Word) (n : Byte) : (s.latchBlock d n).pc = s.pc := rfl
@[simp] theorem State.latchBlock_inRun (s : State) (d : Word) (n : Byte) : (s.latchBlock d n).inRun = s.inRun := rfl
@[simp] theorem State.latchBlock_curOp (s : State) (d : Word) (n : Byte) : (s.latchBlock d n).curOp = s.curOp := rfl
@[simp] theorem State.latchBlock_curArg (s : State) (d : Word) (n : Byte) : (s.latchBlock d n).curArg = s.curArg := rfl
@[simp] theorem State.latchBlock_handleValid (s : State) (d : Word) (n : Byte) : (s.latchBlock d n).handleValid = s.handleValid := rfl
@[simp] theorem State.latchBlock_faultCode (s : State) (d : Word) (n : Byte) : (s.latchBlock d n).faultCode = s.faultCode := rfl
@[simp] theorem State.latchBlock_cancelReq (s : State) (d : Word) (n : Byte) : (s.latchBlock d n).cancelReq = s.cancelReq := rfl
@[simp] theorem State.latchBlock_readingCo2 (s : State) (d : Word) (n : Byte) : (s.latchBlock d n).readingCo2 = s.readingCo2 := rfl
@[simp] theorem State.latchBlock_readingTvoc (s : State) (d : Word) (n : Byte) : (s.latchBlock d n).readingTvoc = s.readingTvoc := rfl
@[simp] theorem State.latchBlock_readingValid (s : State) (d : Word) (n : Byte) : (s.latchBlock d n).readingValid = s.readingValid := rfl
@[simp] theorem State.latchBlock_id (s : State) (d : Word) (n : Byte) : (s.latchBlock d n).id = s.id := rfl
@[simp] theorem State.latchBlock_st (s : State) (d : Word) (n : Byte) : (s.latchBlock d n).st = s.st := rfl
@[simp] theorem State.latchBlock_er (s : State) (d : Word) (n : Byte) : (s.latchBlock d n).er = s.er := rfl
@[simp] theorem State.latchBlock_mm (s : State) (d : Word) (n : Byte) : (s.latchBlock d n).mm = s.mm := rfl
@[simp] theorem State.latchBlock_blk (s : State) (d : Word) (n : Byte) : (s.latchBlock d n).blk = s.blk.take d n := rfl
@[simp] theorem State.latchBlock_breq (s : State) (d : Word) (n : Byte) : (s.latchBlock d n).breq = s.breq := rfl
@[simp] theorem State.latchBlock_rsp (s : State) (d : Word) (n : Byte) : (s.latchBlock d n).rsp = s.rsp := rfl
@[simp] theorem State.latchBlock_rpt (s : State) (d : Word) (n : Byte) : (s.latchBlock d n).rpt = s.rpt := rfl
@[simp] theorem State.latchBlock_events (s : State) (d : Word) (n : Byte) : (s.latchBlock d n).events = s.events := rfl
@[simp] theorem State.latchBlock_pins (s : State) (d : Word) (n : Byte) : (s.latchBlock d n).pins = s.pins := rfl
@[simp] theorem State.latchBlock_env (s : State) (d : Word) (n : Byte) : (s.latchBlock d n).env = s.env := rfl

/-! storeReading -/

@[simp] theorem State.storeReading_topState (s : State) (c t : Half) : (s.storeReading c t).topState = s.topState := rfl
@[simp] theorem State.storeReading_pc (s : State) (c t : Half) : (s.storeReading c t).pc = s.pc := rfl
@[simp] theorem State.storeReading_inRun (s : State) (c t : Half) : (s.storeReading c t).inRun = s.inRun := rfl
@[simp] theorem State.storeReading_curOp (s : State) (c t : Half) : (s.storeReading c t).curOp = s.curOp := rfl
@[simp] theorem State.storeReading_curArg (s : State) (c t : Half) : (s.storeReading c t).curArg = s.curArg := rfl
@[simp] theorem State.storeReading_handleValid (s : State) (c t : Half) : (s.storeReading c t).handleValid = s.handleValid := rfl
@[simp] theorem State.storeReading_faultCode (s : State) (c t : Half) : (s.storeReading c t).faultCode = s.faultCode := rfl
@[simp] theorem State.storeReading_cancelReq (s : State) (c t : Half) : (s.storeReading c t).cancelReq = s.cancelReq := rfl
@[simp] theorem State.storeReading_readingCo2 (s : State) (c t : Half) : (s.storeReading c t).readingCo2 = c := rfl
@[simp] theorem State.storeReading_readingTvoc (s : State) (c t : Half) : (s.storeReading c t).readingTvoc = t := rfl
@[simp] theorem State.storeReading_readingValid (s : State) (c t : Half) : (s.storeReading c t).readingValid = true := rfl
@[simp] theorem State.storeReading_id (s : State) (c t : Half) : (s.storeReading c t).id = s.id := rfl
@[simp] theorem State.storeReading_st (s : State) (c t : Half) : (s.storeReading c t).st = s.st := rfl
@[simp] theorem State.storeReading_er (s : State) (c t : Half) : (s.storeReading c t).er = s.er := rfl
@[simp] theorem State.storeReading_mm (s : State) (c t : Half) : (s.storeReading c t).mm = s.mm := rfl
@[simp] theorem State.storeReading_blk (s : State) (c t : Half) : (s.storeReading c t).blk = s.blk := rfl
@[simp] theorem State.storeReading_breq (s : State) (c t : Half) : (s.storeReading c t).breq = s.breq := rfl
@[simp] theorem State.storeReading_rsp (s : State) (c t : Half) : (s.storeReading c t).rsp = s.rsp := rfl
@[simp] theorem State.storeReading_rpt (s : State) (c t : Half) : (s.storeReading c t).rpt = s.rpt := rfl
@[simp] theorem State.storeReading_events (s : State) (c t : Half) : (s.storeReading c t).events = s.events := rfl
@[simp] theorem State.storeReading_pins (s : State) (c t : Half) : (s.storeReading c t).pins = s.pins := rfl
@[simp] theorem State.storeReading_env (s : State) (c t : Half) : (s.storeReading c t).env = s.env := rfl

/-! beginHandshake -/

@[simp] theorem State.beginHandshake_topState (s : State) (b : Bool) : (s.beginHandshake b).topState = .configuring := rfl
@[simp] theorem State.beginHandshake_pc (s : State) (b : Bool) : (s.beginHandshake b).pc = .cfgHwid := rfl
@[simp] theorem State.beginHandshake_inRun (s : State) (b : Bool) : (s.beginHandshake b).inRun = b := rfl
@[simp] theorem State.beginHandshake_curOp (s : State) (b : Bool) : (s.beginHandshake b).curOp = s.curOp := rfl
@[simp] theorem State.beginHandshake_curArg (s : State) (b : Bool) : (s.beginHandshake b).curArg = s.curArg := rfl
@[simp] theorem State.beginHandshake_handleValid (s : State) (b : Bool) : (s.beginHandshake b).handleValid = s.handleValid := rfl
@[simp] theorem State.beginHandshake_faultCode (s : State) (b : Bool) : (s.beginHandshake b).faultCode = s.faultCode := rfl
@[simp] theorem State.beginHandshake_cancelReq (s : State) (b : Bool) : (s.beginHandshake b).cancelReq = s.cancelReq := rfl
@[simp] theorem State.beginHandshake_readingCo2 (s : State) (b : Bool) : (s.beginHandshake b).readingCo2 = s.readingCo2 := rfl
@[simp] theorem State.beginHandshake_readingTvoc (s : State) (b : Bool) : (s.beginHandshake b).readingTvoc = s.readingTvoc := rfl
@[simp] theorem State.beginHandshake_readingValid (s : State) (b : Bool) : (s.beginHandshake b).readingValid = s.readingValid := rfl
@[simp] theorem State.beginHandshake_id (s : State) (b : Bool) : (s.beginHandshake b).id = s.id := rfl
@[simp] theorem State.beginHandshake_st (s : State) (b : Bool) : (s.beginHandshake b).st = s.st := rfl
@[simp] theorem State.beginHandshake_er (s : State) (b : Bool) : (s.beginHandshake b).er = s.er := rfl
@[simp] theorem State.beginHandshake_mm (s : State) (b : Bool) : (s.beginHandshake b).mm = s.mm := rfl
@[simp] theorem State.beginHandshake_blk (s : State) (b : Bool) : (s.beginHandshake b).blk = s.blk := rfl
@[simp] theorem State.beginHandshake_breq (s : State) (b : Bool) : (s.beginHandshake b).breq = s.breq := rfl
@[simp] theorem State.beginHandshake_rsp (s : State) (b : Bool) : (s.beginHandshake b).rsp = s.rsp := rfl
@[simp] theorem State.beginHandshake_rpt (s : State) (b : Bool) : (s.beginHandshake b).rpt = s.rpt := rfl
@[simp] theorem State.beginHandshake_events (s : State) (b : Bool) : (s.beginHandshake b).events = s.events := rfl
@[simp] theorem State.beginHandshake_pins (s : State) (b : Bool) : (s.beginHandshake b).pins = s.pins := rfl
@[simp] theorem State.beginHandshake_env (s : State) (b : Bool) : (s.beginHandshake b).env = s.env := rfl

end Sys2Proof.Machine
end

