-- ==== Sys2Proof/Laws/Ops.lean ====
section
/-! SUPPORT. For each shared operation, once, everything it can do. -/

namespace Sys2Proof.Machine

/-! Taking a session fault. -/

/-- Everything a session fault writes (R220). -/
theorem sessionFault_cases (s : State) (f : SessionFault) :
    (s.commandInProgress = true ∧ s.sessionFault f = { s with
      faultCode := f, topState := .faulted, inRun := false, pc := .idle, rsp := some ⟨.fault, f.responseData⟩,
      events := s.events ++ [.response ⟨.fault, f.responseData⟩] }) ∨
    (s.commandInProgress = false ∧ s.sessionFault f = { s with
      faultCode := f, topState := .faulted, inRun := false, pc := .idle }) := by
  cases h : s.commandInProgress
  · exact .inr ⟨rfl, by simp [State.sessionFault, h]⟩
  · exact .inl ⟨rfl, by simp [State.sessionFault, h, State.respond]⟩

@[simp] theorem sessionFault_topState (s : State) (f : SessionFault) : (s.sessionFault f).topState = .faulted := by
  simp only [State.sessionFault]; split <;> rfl
@[simp] theorem sessionFault_faultCode (s : State) (f : SessionFault) : (s.sessionFault f).faultCode = f := by
  simp only [State.sessionFault]; split <;> rfl
@[simp] theorem sessionFault_pc (s : State) (f : SessionFault) : (s.sessionFault f).pc = .idle := by
  simp only [State.sessionFault]
@[simp] theorem sessionFault_inRun (s : State) (f : SessionFault) : (s.sessionFault f).inRun = false := by
  simp only [State.sessionFault]
@[simp] theorem sessionFault_curOp (s : State) (f : SessionFault) : (s.sessionFault f).curOp = s.curOp := by
  simp only [State.sessionFault]; split <;> rfl
@[simp] theorem sessionFault_curArg (s : State) (f : SessionFault) : (s.sessionFault f).curArg = s.curArg := by
  simp only [State.sessionFault]; split <;> rfl
@[simp] theorem sessionFault_handleValid (s : State) (f : SessionFault) :
    (s.sessionFault f).handleValid = s.handleValid := by
  simp only [State.sessionFault]; split <;> rfl
@[simp] theorem sessionFault_cancelReq (s : State) (f : SessionFault) :
    (s.sessionFault f).cancelReq = s.cancelReq := by
  simp only [State.sessionFault]; split <;> rfl
@[simp] theorem sessionFault_readingCo2 (s : State) (f : SessionFault) :
    (s.sessionFault f).readingCo2 = s.readingCo2 := by
  simp only [State.sessionFault]; split <;> rfl
@[simp] theorem sessionFault_readingTvoc (s : State) (f : SessionFault) :
    (s.sessionFault f).readingTvoc = s.readingTvoc := by
  simp only [State.sessionFault]; split <;> rfl
@[simp] theorem sessionFault_readingValid (s : State) (f : SessionFault) :
    (s.sessionFault f).readingValid = s.readingValid := by
  simp only [State.sessionFault]; split <;> rfl
@[simp] theorem sessionFault_id (s : State) (f : SessionFault) : (s.sessionFault f).id = s.id := by
  simp only [State.sessionFault]; split <;> rfl
@[simp] theorem sessionFault_st (s : State) (f : SessionFault) : (s.sessionFault f).st = s.st := by
  simp only [State.sessionFault]; split <;> rfl
@[simp] theorem sessionFault_er (s : State) (f : SessionFault) : (s.sessionFault f).er = s.er := by
  simp only [State.sessionFault]; split <;> rfl
@[simp] theorem sessionFault_mm (s : State) (f : SessionFault) : (s.sessionFault f).mm = s.mm := by
  simp only [State.sessionFault]; split <;> rfl
@[simp] theorem sessionFault_blk (s : State) (f : SessionFault) : (s.sessionFault f).blk = s.blk := by
  simp only [State.sessionFault]; split <;> rfl
@[simp] theorem sessionFault_breq (s : State) (f : SessionFault) : (s.sessionFault f).breq = s.breq := by
  simp only [State.sessionFault]; split <;> rfl
@[simp] theorem sessionFault_rpt (s : State) (f : SessionFault) : (s.sessionFault f).rpt = s.rpt := by
  simp only [State.sessionFault]; split <;> rfl
@[simp] theorem sessionFault_pins (s : State) (f : SessionFault) : (s.sessionFault f).pins = s.pins := by
  simp only [State.sessionFault]; split <;> rfl
@[simp] theorem sessionFault_env (s : State) (f : SessionFault) : (s.sessionFault f).env = s.env := by
  simp only [State.sessionFault]; split <;> rfl

/-! Accepting a command. -/

/-- Everything a command's meaning can do, by the state it meets (R23, R107, R182). -/
theorem acceptCommand_cases (w : Half) (legal : TopState → Bool) (body : State → State) (s : State) :
    (s.pc ≠ .idle ∧ acceptCommand w legal body s = .next s) ∨
    (s.pc = .idle ∧ s.cancelPending = true ∧ acceptCommand w legal body s = .next s.idleCancel) ∨
    (s.pc = .idle ∧ s.cancelPending = false ∧ legal s.topState = true ∧
      acceptCommand w legal body s = .next (body (s.latchCommand w))) ∨
    (s.pc = .idle ∧ s.cancelPending = false ∧ legal s.topState = false ∧
      acceptCommand w legal body s = .next ((s.latchCommand w).respond .rejected 0x0000#16)) := by
  by_cases h : s.pc = .idle
  · cases hc : s.cancelPending
    · cases hl : legal s.topState
      · exact .inr (.inr (.inr ⟨h, rfl, rfl, by simp [acceptCommand, h, hc, hl]⟩))
      · exact .inr (.inr (.inl ⟨h, rfl, rfl, by simp [acceptCommand, h, hc, hl]⟩))
    · exact .inr (.inl ⟨h, rfl, by simp [acceptCommand, h, hc]⟩)
  · exact .inl ⟨h, by simp [acceptCommand, h]⟩

/-! A bus transaction. -/

/-- Everything a transaction's meaning can do, by the answer it meets (R221, R266). -/
theorem busTransaction_cases (req : Word) (res : Word → BusResult) (finish : Word → State → State) (s : State) :
    (s.pins.bus = none ∧ busTransaction req res finish s = .next { s with breq := some req }) ∨
    (∃ d, s.pins.bus = some ⟨true, d⟩ ∧
      busTransaction req res finish s = .next ((s.completeBus req .busError).sessionFault .busError)) ∨
    (∃ d, s.pins.bus = some ⟨false, d⟩ ∧
      busTransaction req res finish s = .next (finish d (s.completeBus req (res d)))) := by
  rcases h : s.pins.bus with _ | ⟨e, d⟩
  · exact .inl ⟨rfl, by simp [busTransaction, h]⟩
  · cases e
    · exact .inr (.inr ⟨d, rfl, by simp [busTransaction, h]⟩)
    · exact .inr (.inl ⟨d, rfl, by simp [busTransaction, h]⟩)

/-- The latch a byte read fills (R32), register by register. -/
theorem latchByte_cases (s : State) (a v : Byte) :
    (a = Config.status ∧ s.latchByte a v = { s with st := v }) ∨
    (a = Config.measMode ∧ s.latchByte a v = { s with mm := v }) ∨
    (a = Config.hwId ∧ s.latchByte a v = { s with id := v }) ∨
    (a = Config.errorId ∧ s.latchByte a v = { s with er := v }) ∨
    (a ≠ Config.status ∧ a ≠ Config.measMode ∧ a ≠ Config.hwId ∧ a ≠ Config.errorId ∧ s.latchByte a v = s) := by
  unfold State.latchByte
  split
  · exact .inl ⟨‹_›, rfl⟩
  · split
    · exact .inr (.inl ⟨‹_›, rfl⟩)
    · split
      · exact .inr (.inr (.inl ⟨‹_›, rfl⟩))
      · split
        · exact .inr (.inr (.inr (.inl ⟨‹_›, rfl⟩)))
        · exact .inr (.inr (.inr (.inr ⟨‹_›, ‹_›, ‹_›, ‹_›, rfl⟩)))

@[simp] theorem latchByte_status (s : State) (v : Byte) : s.latchByte Config.status v = { s with st := v } := rfl
@[simp] theorem latchByte_measMode (s : State) (v : Byte) : s.latchByte Config.measMode v = { s with mm := v } := rfl
@[simp] theorem latchByte_hwId (s : State) (v : Byte) : s.latchByte Config.hwId v = { s with id := v } := rfl
@[simp] theorem latchByte_errorId (s : State) (v : Byte) : s.latchByte Config.errorId v = { s with er := v } := rfl

/-! The tick. -/

/-- The pins of the next tick are the next entry of the schedule, or quiet. -/
theorem nextPins_cases (s : State) :
    (s.env = [] ∧ s.nextPins = { s with pins := Inputs.quiet }) ∨
    (∃ p rest, s.env = p :: rest ∧ s.nextPins = { s with pins := p, env := rest }) := by
  cases h : s.env with
  | nil => exact .inl ⟨rfl, by simp [State.nextPins, h]⟩
  | cons p rest => exact .inr ⟨p, rest, rfl, by simp [State.nextPins, h]⟩

/-- Sampling the next pins changes the inputs only. -/
theorem nextPins_eq (s : State) :
    s.nextPins = { s with pins := s.env.headD Inputs.quiet, env := s.env.tail } := by
  cases h : s.env with
  | nil => simp [State.nextPins, h]
  | cons p rest => simp [State.nextPins, h]

/-- The end of a step changes the cancellation latch and the inputs only (R112). -/
theorem endStep_eq (s : State) :
    s.endStep = { s with
      cancelReq := s.cancelReq || s.pins.cancel, pins := s.env.headD Inputs.quiet, env := s.env.tail } := by
  simp [State.endStep, nextPins_eq]

/-- A tick in reset (R250). -/
theorem tick_reset (s : State) (h : s.pins.rstN = false) : tick s = .next s.takeReset.nextPins := by
  simp [tick, h]

/-- A tick out of reset runs what it fetched. -/
theorem tick_run (s : State) (h : s.pins.rstN = true) :
    tick s = mapNext State.endStep (runFetched s.fetch s.beginStep) := by
  simp [tick, h]

/-- A mapped answer is a next state exactly where the answer is one. -/
theorem mapNext_next (f : State → State) (r : Result) (t : State) :
    mapNext f r = .next t ↔ ∃ u, r = .next u ∧ t = f u := by
  cases r <;> simp [mapNext, eq_comm]

/-! Placing a row's word. -/

/-- A placed bus request is what the next step fetches. -/
theorem fetch_placeBus (s : State) (w : Word) : (s.placeBus w).fetch = fetchBus w := rfl

/-- A placed command is what the next step fetches. -/
theorem fetch_placeCommand (s : State) (w : Half) : (s.placeCommand w).fetch = fetchCommand w := rfl

end Sys2Proof.Machine
end

