-- ==== Sys2Proof/Laws/Events.lean ====
section
/-! SUPPORT. The three views of the ordered record, entry by entry and over the shared operations. -/

namespace Sys2Proof.Machine

@[simp] theorem transactionsOf_nil : transactionsOf [] = [] := rfl
@[simp] theorem reportsOf_nil : reportsOf [] = [] := rfl
@[simp] theorem responsesOf_nil : responsesOf [] = [] := rfl

@[simp] theorem transactionsOf_append (a b : List Event) :
    transactionsOf (a ++ b) = transactionsOf a ++ transactionsOf b := List.filterMap_append
@[simp] theorem reportsOf_append (a b : List Event) : reportsOf (a ++ b) = reportsOf a ++ reportsOf b :=
  List.filterMap_append
@[simp] theorem responsesOf_append (a b : List Event) : responsesOf (a ++ b) = responsesOf a ++ responsesOf b :=
  List.filterMap_append

@[simp] theorem transactionsOf_bus (w : Word) (r : BusResult) (es : List Event) :
    transactionsOf (.bus w r :: es) = (w, r) :: transactionsOf es := rfl
@[simp] theorem transactionsOf_report (r : Report) (es : List Event) :
    transactionsOf (.report r :: es) = transactionsOf es := rfl
@[simp] theorem transactionsOf_response (r : Response) (es : List Event) :
    transactionsOf (.response r :: es) = transactionsOf es := rfl
@[simp] theorem reportsOf_bus (w : Word) (r : BusResult) (es : List Event) :
    reportsOf (.bus w r :: es) = reportsOf es := rfl
@[simp] theorem reportsOf_report (r : Report) (es : List Event) :
    reportsOf (.report r :: es) = r :: reportsOf es := rfl
@[simp] theorem reportsOf_response (r : Response) (es : List Event) :
    reportsOf (.response r :: es) = reportsOf es := rfl
@[simp] theorem responsesOf_bus (w : Word) (r : BusResult) (es : List Event) :
    responsesOf (.bus w r :: es) = responsesOf es := rfl
@[simp] theorem responsesOf_report (r : Report) (es : List Event) :
    responsesOf (.report r :: es) = responsesOf es := rfl
@[simp] theorem responsesOf_response (r : Response) (es : List Event) :
    responsesOf (.response r :: es) = r :: responsesOf es := rfl

/-- A session fault performs no transaction (R220). -/
@[simp] theorem transactionsOf_sessionFault (s : State) (f : SessionFault) :
    transactionsOf (s.sessionFault f).events = transactionsOf s.events := by
  rcases sessionFault_cases s f with ⟨_, e⟩ | ⟨_, e⟩ <;> simp [e]

/-- A session fault reports nothing (R220). -/
@[simp] theorem reportsOf_sessionFault (s : State) (f : SessionFault) :
    reportsOf (s.sessionFault f).events = reportsOf s.events := by
  rcases sessionFault_cases s f with ⟨_, e⟩ | ⟨_, e⟩ <;> simp [e]

end Sys2Proof.Machine
end

