-- ==== Sys2Proof/Laws/PerInstr.lean ====
section
/-! SUPPORT. Per-instruction facts about the encoding. FixedBits: an encoded instruction has the fixed bits of its row
of spec/opcode_table.json (match and mask). -/

namespace Sys2Proof.Laws.FixedBits

/-- mask and match of a 16-bit row, mask and match of a 32-bit row. -/
inductive Row where
  | cmd16 (mask fixed : Half)
  | breq32 (mask fixed : Word)

/-- The opcode table's mask and match, a row a constructor. -/
def row : Instr → Row
  | .configure => .cmd16 0xFFFF#16 0x0100#16
  | .setDriveMode _ => .cmd16 0xFF00#16 0x0200#16
  | .getBaseline => .cmd16 0xFFFF#16 0x0300#16
  | .pollOnce => .cmd16 0xFFFF#16 0x0400#16
  | .run => .cmd16 0xFFFF#16 0x0500#16
  | .decodeError _ => .cmd16 0xFF00#16 0x0600#16
  | .openHandle _ _ => .breq32 0xFF00FF80#32 0x00000000#32
  | .readByte _ => .breq32 0xFF00FFFF#32 0x10000000#32
  | .readBlock _ _ => .breq32 0xFF0000FF#32 0x20000000#32
  | .writeByte _ _ => .breq32 0xFF00FF00#32 0x30000000#32
  | .writeCommand _ => .breq32 0xFF00FFFF#32 0x40000000#32

/-- The word has the row's fixed bits. -/
def fits : Row → PortWord → Prop
  | .cmd16 mask fixed, .command w => w &&& mask = fixed
  | .breq32 mask fixed, .busRequest w => w &&& mask = fixed
  | .cmd16 _ _, .busRequest _ => False
  | .breq32 _ _, .command _ => False

def Statement (i : Instr) : Prop := fits (row i) (encode i)

/-- A command word whose operand is masked away. -/
theorem commandWord_mask (op arg : Byte) : commandWord op arg &&& 0xFF00#16 = commandWord op 0x00#8 := by
  unfold commandWord
  rw [show (0xFF00#16 : Half) = 0xFF#8 ++ 0x00#8 from rfl, BitVec.and_append]
  congr 1
  · exact BitVec.and_allOnes
  · exact BitVec.and_zero

/-- A bus word masked field by field. -/
theorem busWord_mask (k : BitVec 4) (a l v : Byte) (ml mv : Byte) :
    busWord k a l v &&& (0xF#4 ++ 0xF#4 ++ 0x00#8 ++ ml ++ mv : Word) = busWord k 0x00#8 (l &&& ml) (v &&& mv) := by
  unfold busWord
  show (k ++ 0x0#4 ++ a ++ l ++ v) &&& (0xF#4 ++ 0xF#4 ++ 0x00#8 ++ ml ++ mv) =
    (k ++ 0x0#4 ++ 0x00#8 ++ (l &&& ml) ++ (v &&& mv) : BitVec (4 + 4 + 8 + 8 + 8))
  rw [BitVec.and_append, BitVec.and_append, BitVec.and_append, BitVec.and_append]
  have hk : k &&& 0xF#4 = k := BitVec.and_allOnes
  have ha : a &&& 0x00#8 = 0x00#8 := BitVec.and_zero
  rw [hk, ha]
  rfl

theorem configure : Statement .configure := show commandWord _ _ &&& _ = _ from rfl
theorem setDriveMode (m : Byte) : Statement (.setDriveMode m) := commandWord_mask 0x02#8 m
theorem getBaseline : Statement .getBaseline := show commandWord _ _ &&& _ = _ from rfl
theorem pollOnce : Statement .pollOnce := show commandWord _ _ &&& _ = _ from rfl
theorem run : Statement .run := show commandWord _ _ &&& _ = _ from rfl
theorem decodeError (e : Byte) : Statement (.decodeError e) := commandWord_mask 0x06#8 e

theorem openHandle (bus : BitVec 8) (addr : BitVec 7) : Statement (.openHandle bus addr) := by
  have h := busWord_mask 0x0#4 bus 0x00#8 (0#1 ++ addr) 0xFF#8 0x80#8
  have hv : ((0#1 ++ addr : Byte) &&& 0x80#8) = 0x00#8 := by
    show ((0#1 ++ addr) &&& (1#1 ++ 0#7) : BitVec (1 + 7)) = 0#1 ++ 0#7
    rw [BitVec.and_append]
    congr 1
    exact BitVec.and_zero
  rw [hv] at h
  exact h

theorem readByte (a : Byte) : Statement (.readByte a) := busWord_mask 0x1#4 a 0x00#8 0x00#8 0xFF#8 0xFF#8

theorem readBlock (a len : Byte) : Statement (.readBlock a len) := by
  have h := busWord_mask 0x2#4 a len 0x00#8 0x00#8 0xFF#8
  rw [show len &&& 0x00#8 = 0x00#8 from BitVec.and_zero] at h
  exact h

theorem writeByte (a v : Byte) : Statement (.writeByte a v) := by
  have h := busWord_mask 0x3#4 a 0x00#8 v 0xFF#8 0x00#8
  rw [show v &&& 0x00#8 = 0x00#8 from BitVec.and_zero] at h
  exact h

theorem writeCommand (c : Byte) : Statement (.writeCommand c) := busWord_mask 0x4#4 c 0x00#8 0x00#8 0xFF#8 0xFF#8

end Sys2Proof.Laws.FixedBits
end

