-- ==== Sys2Proof/Laws/Run.lean ====
section
/-! SUPPORT. Runs of several ticks, one tick at a time, and what a step fetches. -/

namespace Sys2Proof.Machine

@[simp] theorem runTicks_zero (s : State) : runTicks 0 s = .next s := rfl

/-- `Host.Core.run`, one step off its front. -/
theorem core_run_succ (M : Host.Core) (n : Nat) (s u : M.State) (h : M.step s = .next u) :
    M.run (n + 1) s = M.run n u := by
  simp only [Host.Core.run, h]

/-- A run of `n + 1` ticks whose first step answers `u` is a run of `n` ticks from `u`. -/
theorem runTicks_succ {s u : State} (n : Nat) (h : step s = .next u) : runTicks (n + 1) s = runTicks n u :=
  core_run_succ Sys2Proof.core n s u h

/-- One tick. -/
theorem runTicks_one {s u : State} (h : step s = .next u) : runTicks 1 s = .next u := runTicks_succ 0 h

/-- A step out of reset runs what it fetched. -/
theorem step_run (s : State) (h : s.pins.rstN = true) :
    step s = mapNext State.endStep (runFetched s.fetch s.beginStep) := tick_run s h

/-- With nothing outstanding, a label's transaction is what its step fetches. -/
theorem fetch_label {s : State} {i : Instr} (hb : s.breq = none) (hl : s.labelTransaction = some i) :
    s.fetch = .instr i := by
  simp [State.fetch, hb, hl]

/-- With nothing outstanding, a label without transaction other than IDLE takes an internal step. -/
theorem fetch_internal {s : State} (hb : s.breq = none) (hl : s.labelTransaction = none) (hp : s.pc ≠ .idle) :
    s.fetch = .internal := by
  simp [State.fetch, hb, hl, hp]

/-- With nothing outstanding, IDLE looks at the command port. -/
theorem fetch_idle {s : State} (hb : s.breq = none) (hp : s.pc = .idle) :
    s.fetch = match s.pins.cmd with
      | some w => fetchCommand w
      | none => .internal := by
  have hl : s.labelTransaction = none := by simp [State.labelTransaction, hp]
  cases h : s.pins.cmd <;> simp [State.fetch, hb, hl, hp, h]

end Sys2Proof.Machine
end

