-- ==== Sys2Proof/Laws/Step.lean ====
section
/-! SUPPORT. Once, everything a step of a machine in the session invariant can do. -/

namespace Sys2Proof.Machine

/-- The request word of a bus transaction (R114); a host command has none. -/
def requestOf : Instr → Word
  | .openHandle bus addr => openWord bus addr
  | .readByte a => readByteWord a
  | .readBlock a len => readBlockWord a len
  | .writeByte a v => writeByteWord a v
  | .writeCommand c => writeCommandWord c
  | .configure | .setDriveMode _ | .getBaseline | .pollOnce | .run | .decodeError _ => 0#32

/-- What a transaction delivers from an answer's data (R62, R115). -/
def resultOf (i : Instr) (d : Word) : BusResult :=
  match i with
  | .readByte _ => .byte (answerByte d 0)
  | .readBlock _ len => .block (answerBytes d len)
  | .openHandle _ _ | .writeByte _ _ | .writeCommand _ | .configure | .setDriveMode _ | .getBaseline | .pollOnce
  | .run | .decodeError _ => .done

/-- What a transaction latches from an answer's data (R26, R32). -/
def State.latched (i : Instr) (d : Word) (s : State) : State :=
  match i with
  | .openHandle _ _ => { s with handleValid := true }
  | .readByte a => s.latchByte a (answerByte d 0)
  | .readBlock _ len => s.latchBlock d len
  | .writeByte _ _ | .writeCommand _ | .configure | .setDriveMode _ | .getBaseline | .pollOnce | .run
  | .decodeError _ => s

/-- The meaning of a bus transaction, all five in one form. -/
theorem exec_bus (i : Instr) (s : State) (h : isHostCommand i = false) :
    exec i s = busTransaction (requestOf i) (resultOf i) (fun d t => resumeAfter s i (t.latched i d)) s := by
  cases i <;> first | rfl | simp [isHostCommand] at h

/-- The word of a bus transaction. -/
theorem encode_bus (i : Instr) (h : isHostCommand i = false) : encode i = .busRequest (requestOf i) := by
  cases i <;> first | rfl | simp [isHostCommand] at h

/-- The labels issue bus transactions only (R22). -/
theorem labelTransaction_bus {s : State} {i : Instr} (h : s.labelTransaction = some i) :
    isHostCommand i = false := by
  unfold State.labelTransaction at h
  split at h <;> first | (cases h; done) | (cases h; rfl)

/-- A label's transaction is one it issues. -/
theorem issues_label {s : State} {i : Instr} (h : s.labelTransaction = some i) : s.issues i = true := by
  cases i <;> simp only [State.issues, h, beq_self_eq_true]
  unfold State.labelTransaction at h
  split at h <;> simp_all

/-- The decoded command port gives host commands only. -/
theorem decodeCommand_host {w : Half} {i : Instr} (h : decodeCommand w = .ok i) : isHostCommand i = true := by
  unfold decodeCommand withoutOperand at h
  (repeat' split at h) <;> first | (cases h; done) | (cases h; rfl)

/-- The decoded bus port gives bus transactions only. -/
theorem decodeBus_bus {w : Word} {i : Instr} (h : decodeBus w = .ok i) : isHostCommand i = false := by
  unfold decodeBus whenZero at h
  (repeat' split at h) <;> first | (cases h; done) | (cases h; rfl)

/-- The request word of a bus transaction decodes to it. -/
theorem decodeBus_requestOf (i : Instr) (h : isHostCommand i = false) : decodeBus (requestOf i) = .ok i := by
  cases i <;>
    simp [isHostCommand, requestOf, decodeBus, openWord, readByteWord, readBlockWord, writeByteWord, writeCommandWord,
      whenZero] at h ⊢

/-- Where an outstanding request fits its label, the step fetches the label's transaction. -/
theorem fetch_fits {s : State} {i : Instr} (hf : busFits s = true) (hl : s.labelTransaction = some i) :
    s.fetch = .instr i := by
  cases hb : s.breq with
  | none => exact fetch_label hb hl
  | some w =>
    have he : encode i = .busRequest w := by simpa [busFits, hb, hl] using hf
    rw [encode_bus i (labelTransaction_bus hl)] at he
    cases he
    simp [State.fetch, hb, fetchBus, decodeBus_requestOf i (labelTransaction_bus hl)]

/-- Where an outstanding request fits its label, a label without transaction has none outstanding. -/
theorem breq_none_of_fits {s : State} (hf : busFits s = true) (hl : s.labelTransaction = none) : s.breq = none := by
  cases hb : s.breq with
  | none => rfl
  | some w => simp [busFits, hb, hl] at hf

/-- The labels without a transaction (R22). -/
theorem labelTransaction_none {s : State} (hl : s.labelTransaction = none) :
    s.pc = .idle ∨ s.pc = .runChkPre ∨ s.pc = .sleep ∨ s.pc = .runChkHead := by
  unfold State.labelTransaction at hl
  split at hl <;> simp_all

/-- Everything a step can do at a label that issues a transaction (R221, R266): no answer, a `BusError`, or the
transaction with the label's continuation. -/
theorem step_at_label {s : State} {i : Instr} (hr : s.pins.rstN = true) (hf : busFits s = true)
    (hl : s.labelTransaction = some i) :
    (s.pins.bus = none ∧ step s = .next (State.endStep { s.beginStep with breq := some (requestOf i) })) ∨
    (∃ d, s.pins.bus = some ⟨true, d⟩ ∧
      step s = .next ((s.beginStep.completeBus (requestOf i) .busError).sessionFault .busError).endStep) ∨
    (∃ d, s.pins.bus = some ⟨false, d⟩ ∧
      step s = .next ((s.beginStep.completeBus (requestOf i) (resultOf i d)).latched i d).labelDone.endStep) := by
  have hl' : s.beginStep.labelTransaction = some i := hl
  rw [step_run s hr, fetch_fits hf hl]
  simp only [runFetched, exec_bus i _ (labelTransaction_bus hl)]
  rcases busTransaction_cases (requestOf i) (resultOf i) (fun d t => resumeAfter s.beginStep i (t.latched i d))
    s.beginStep with ⟨hb, e⟩ | ⟨d, hb, e⟩ | ⟨d, hb, e⟩ <;> rw [e]
  · exact .inl ⟨hb, rfl⟩
  · exact .inr (.inl ⟨d, hb, rfl⟩)
  · refine .inr (.inr ⟨d, hb, ?_⟩)
    simp only [resumeAfter, issues_label hl', if_true, mapNext]

/-- Everything a step can do at IDLE with nothing outstanding (R107, R182): a cancellation, nothing, a rejection, or
the acceptance of a command. -/
theorem step_at_idle {s : State} (hr : s.pins.rstN = true) (hb : s.breq = none) (hp : s.pc = .idle) :
    (s.cancelPending = true ∧ step s = .next s.beginStep.idleCancel.endStep) ∨
    (s.cancelPending = false ∧ s.pins.cmd = none ∧ step s = .next s.beginStep.endStep) ∨
    (∃ w e, s.cancelPending = false ∧ s.pins.cmd = some w ∧ decodeCommand w = .error e ∧
      step s = .next ((s.beginStep.latchCommand w).respond .rejected 0x0000#16).endStep) ∨
    (∃ w i, s.cancelPending = false ∧ s.pins.cmd = some w ∧ decodeCommand w = .ok i ∧
      step s = mapNext State.endStep (exec i s.beginStep)) := by
  have hp' : s.beginStep.pc = .idle := hp
  have hc' : s.beginStep.cancelPending = s.cancelPending := rfl
  have accept : ∀ w legal body, s.cancelPending = true →
      acceptCommand w legal body s.beginStep = .next s.beginStep.idleCancel := by
    intro w legal body h
    unfold acceptCommand
    rw [if_neg (not_not_intro hp'), if_pos (by rw [hc', h])]
  rw [step_run s hr, fetch_idle hb hp]
  cases hc : s.cancelPending
  · cases hw : s.pins.cmd with
    | none =>
      refine .inr (.inl ⟨rfl, rfl, ?_⟩)
      simp only [runFetched, State.internalStep, hp', hc', hc, mapNext, Bool.false_eq_true, if_false]
    | some w =>
      cases hd : decodeCommand w with
      | error e =>
        refine .inr (.inr (.inl ⟨w, e, rfl, rfl, hd, ?_⟩))
        simp only [fetchCommand, hd, runFetched, rejectReserved, acceptCommand]
        rw [if_neg (not_not_intro hp'), if_neg (by simp [hc', hc]), if_neg (by simp)]
        rfl
      | ok i =>
        exact .inr (.inr (.inr ⟨w, i, rfl, rfl, hd, by simp only [fetchCommand, hd, runFetched]⟩))
  · refine .inl ⟨rfl, ?_⟩
    cases hw : s.pins.cmd with
    | none => simp only [runFetched, State.internalStep, hp', hc', hc, mapNext, if_true]
    | some w =>
      cases hd : decodeCommand w with
      | error e => simp only [fetchCommand, hd, runFetched, rejectReserved, accept _ _ _ hc, mapNext]
      | ok i =>
        have hi := decodeCommand_host hd
        cases i <;>
          first
            | (simp only [fetchCommand, hd, runFetched, exec, execConfigure, execSetDriveMode, execGetBaseline,
                execPollOnce, execRun, execDecodeError, accept _ _ _ hc, mapNext]; done)
            | simp [isHostCommand] at hi

/-- A step at one of RUN's three labels without transaction, with nothing outstanding (R180, R181). -/
theorem step_at_run_label {s : State} (hr : s.pins.rstN = true) (hb : s.breq = none)
    (hp : s.pc = .runChkPre ∨ s.pc = .sleep ∨ s.pc = .runChkHead) :
    step s = .next s.beginStep.internalStep.endStep := by
  rw [step_run s hr, fetch_internal hb (by rcases hp with h | h | h <;> simp [State.labelTransaction, h])
    (by rcases hp with h | h | h <;> simp [h])]
  rfl

end Sys2Proof.Machine
end

