-- ==== Sys2Proof/Tests/Slice0.lean ====
section
/-! SUPPORT. Tests of the model by its builder: the encoding checks, words written out from the spec, one-step vectors of
95_test_vectors.md, and a witness for the hypotheses of each statement that has some. -/

namespace Sys2Proof.Tests

open Sys2Proof.Machine

/-! Small states. -/

/-- A session in a given state at a given label: handle held, the identity latch as the handshake leaves it. -/
def session (t : TopState) (l : Label) (run : Bool) (op : Byte) : State :=
  { State.reset with topState := t, pc := l, inRun := run, curOp := op, handleValid := true, id := 0x81#8 }

/-- At IDLE, in a session state, seeing these input pins. -/
def idleSeeing (t : TopState) (p : Inputs) : State := (session t .idle false 0x00#8).withInputs [p]

/-- At IDLE with a command presented. -/
def presented (t : TopState) (w : Half) : State := idleSeeing t (Inputs.presenting w)

/-- The present tick answers the transaction without error. -/
def answered (s : State) (d : Word) : State := s.withInputs [Inputs.answering ⟨false, d⟩]

/-- The present tick answers the transaction with `BusError`. -/
def failed (s : State) : State := s.withInputs [Inputs.answering ⟨true, 0x00000000#32⟩]

/-- At a label of the handshake (CONFIGURE). -/
def shaking (l : Label) : State := session .configuring l false 0x01#8

/-- At a label of a poll iteration of POLL_ONCE, or of RUN. -/
def polling (l : Label) (run : Bool) : State := session .polling l run (if run then 0x05#8 else 0x04#8)

/-- The next state, if there is one. -/
def nx (r : Result) : Option State :=
  match r with
  | .next s => some s
  | .fault _ => none
  | .refused _ => none

/-! Well-formedness: the one field with a range check (R114, "length (1-4)"). -/

theorem test_wf_block_length_zero_refused : (Instr.readBlock 0x02#8 0x00#8).wf = false := by decide
theorem test_wf_block_length_five_refused : (Instr.readBlock 0x02#8 0x05#8).wf = false := by decide
theorem test_wf_block_length_in_range :
    (Instr.readBlock 0x02#8 0x01#8).wf = true ∧ (Instr.readBlock 0x02#8 0x04#8).wf = true := by decide

/-! Decoding, bit by bit from R100 to R106 and R114 (fields from the top). -/

theorem test_decode_configure : decode (.command 0b00000001_00000000#16) = .ok .configure := by decide
theorem test_decode_setDriveMode : decode (.command 0b00000010_10100101#16) = .ok (.setDriveMode 0xA5#8) := by decide
theorem test_decode_getBaseline : decode (.command 0b00000011_00000000#16) = .ok .getBaseline := by decide
theorem test_decode_pollOnce : decode (.command 0b00000100_00000000#16) = .ok .pollOnce := by decide
theorem test_decode_run : decode (.command 0b00000101_00000000#16) = .ok .run := by decide
theorem test_decode_decodeError : decode (.command 0b00000110_00111111#16) = .ok (.decodeError 0x3F#8) := by decide
theorem test_decode_openHandle :
    decode (.busRequest 0b0000_0000_00000001_00000000_0_1011011#32) = .ok (.openHandle 0x01#8 0x5B#7) := by decide
theorem test_decode_readByte :
    decode (.busRequest 0b0001_0000_11100000_00000000_00000000#32) = .ok (.readByte 0xE0#8) := by decide
theorem test_decode_readBlock :
    decode (.busRequest 0b0010_0000_00010001_00000010_00000000#32) = .ok (.readBlock 0x11#8 0x02#8) := by decide
theorem test_decode_writeByte :
    decode (.busRequest 0b0011_0000_00000001_00000000_10011111#32) = .ok (.writeByte 0x01#8 0x9F#8) := by decide
theorem test_decode_writeCommand :
    decode (.busRequest 0b0100_0000_11110100_00000000_00000000#32) = .ok (.writeCommand 0xF4#8) := by decide

/-- Reserved words, by name (R107, R114). -/
theorem test_decode_reserved :
    decode (.command 0x0000#16) = .error .reservedOpcode ∧ decode (.command 0x0700#16) = .error .reservedOpcode ∧
    decode (.command 0xFF00#16) = .error .reservedOpcode ∧ decode (.command 0x0101#16) = .error .reservedOperand ∧
    decode (.busRequest 0x50000000#32) = .error .reservedKind ∧
    decode (.busRequest 0x11200000#32) = .error .reservedField ∧
    decode (.busRequest 0x000000DB#32) = .error .reservedField := by decide

/-! Instructions, one step each; expected values from 95_test_vectors.md. -/

/-- P1 step 2. -/
theorem test_configure_accepted :
    (nx (step (presented .uninitialized 0x0100#16))).map (fun t => (t.topState, t.pc, t.inRun, t.rsp)) =
      some (.configuring, .cfgHwid, false, none) := by decide
/-- 2.5, "second CONFIGURE after success". -/
theorem test_configure_in_polling_rejected :
    (nx (step (presented .polling 0x0100#16))).map (fun t => (t.topState, t.pc, t.rsp)) =
      some (.polling, .idle, some ⟨.rejected, 0x0000#16⟩) := by decide

/-- 2.2: mm = 0xFF, m = 7 writes 0xCF and answers 0x00CF. -/
theorem test_setDriveMode_writes_clamped :
    (nx (step { answered (session .polling .sdmWr false 0x02#8) 0#32 with curArg := 0x07#8, mm := 0xFF#8 })).map
        (fun t => (t.pc, t.rsp, transactionsOf t.events)) =
      some (.idle, some ⟨.ok, 0x00CF#16⟩, [(0x300100CF#32, .done)]) := by decide
/-- 2.6: 0x0201 in UNINITIALIZED. -/
theorem test_setDriveMode_needs_polling :
    (nx (step (presented .uninitialized 0x0201#16))).map (fun t => (t.pc, t.curArg, t.rsp)) =
      some (.idle, 0x01#8, some ⟨.rejected, 0x0000#16⟩) := by decide

/-- 2.3: bresp_data 0x1234ABCD gives 0x1234. -/
theorem test_getBaseline_ignores_tail :
    (nx (step (answered (session .polling .blRd false 0x03#8) 0x1234ABCD#32))).map (fun t => (t.pc, t.rsp)) =
      some (.idle, some ⟨.ok, 0x1234#16⟩) := by decide
/-- 2.3: BusError. -/
theorem test_getBaseline_busError :
    (nx (step (failed (session .polling .blRd false 0x03#8)))).map (fun t => (t.topState, t.faultCode, t.rsp)) =
      some (.faulted, .busError, some ⟨.fault, 0x0001#16⟩) := by decide

/-- 2.4: st = 0x09 takes the data branch. -/
theorem test_pollOnce_data_before_error :
    (nx (step (answered (polling .pollSt false) 0x09000000#32))).map (fun t => (t.pc, t.rsp)) =
      some (.pollData, none) := by decide
/-- W8: block 01 02 03 04 is READING(258, 772). -/
theorem test_pollOnce_reading :
    (nx (step (answered (polling .pollData false) 0x01020304#32))).map
        (fun t => (t.readingCo2, t.readingTvoc, t.rpt, t.rsp)) =
      some (258#16, 772#16, some (.reading 258#16 772#16), some ⟨.ok, 0x0001#16⟩) := by decide

/-- 2.7: a cancellation at the checkpoint before the sleep. -/
theorem test_run_stops_at_checkpoint :
    (nx (step { polling .runChkPre true with cancelReq := true })).map (fun t => (t.topState, t.pc, t.rsp)) =
      some (.stopped, .idle, some ⟨.stopped, 0x0000#16⟩) := by decide
/-- 2.7: a cancellation first asserted with the command is not yet seen. -/
theorem test_run_same_step_cancel :
    (nx (step (idleSeeing .polling { Inputs.presenting 0x0500#16 with cancel := true }))).map
        (fun t => (t.pc, t.inRun, t.cancelReq)) = some (.runChkHead, true, true) := by decide

/-- 2.6: 0x063F in STOPPED. -/
theorem test_decodeError_in_stopped :
    (nx (step (presented .stopped 0x063F#16))).map (fun t => (t.topState, t.pc, t.rsp)) =
      some (.stopped, .idle, some ⟨.ok, 0x0006#16⟩) := by decide
/-- 2.1, rows of one and of several bits. -/
theorem test_decodeError_rows :
    decodeErrorByte 0x0C#8 = .maxResistance ∧ decodeErrorByte 0x9F#8 = .heaterFault ∧
    decodeErrorByte 0xC1#8 = .msgInvalid ∧ decodeErrorByte 0x7E#8 = .heaterSupply := by decide

/-- P1 step 1. -/
theorem test_openHandle_first_step :
    (nx (step (answered State.reset 0xFFFFFFFF#32))).map (fun t => (t.pc, t.topState, t.handleValid, t.rsp)) =
      some (.idle, .uninitialized, true, none) := by decide
/-- 2.5: OPEN fails without a response. -/
theorem test_openHandle_busError :
    (nx (step (failed State.reset))).map (fun t => (t.pc, t.topState, t.faultCode, t.rsp)) =
      some (.idle, .faulted, .busError, none) := by decide

/-- 2.5: rd 0x20 -> 0x80. -/
theorem test_readByte_identity_mismatch :
    (nx (step (answered (shaking .cfgHwid) 0x80000000#32))).map (fun t => (t.topState, t.rsp, t.rpt)) =
      some (.faulted, some ⟨.fault, 0x0002#16⟩, none) := by decide
/-- 2.5: STARTUP_ERROR with error byte 0x05. -/
theorem test_readByte_error_byte :
    (nx (step (answered (shaking .cfgErrBoot) 0x05000000#32))).map (fun t => (t.rpt, t.rsp)) =
      some (some (.fault .measModeInvalid), some ⟨.fault, 0x0003#16⟩) := by decide

/-- 2.4: block 01 90 00 00 is (400, 0). -/
theorem test_readBlock_big_endian :
    (nx (step (answered (polling .pollData true) 0x01900000#32))).map
        (fun t => (t.pc, t.readingCo2, t.readingTvoc, t.rsp)) = some (.runChkPre, 400#16, 0#16, none) := by decide
/-- A block of two bytes keeps the last two bytes of the latch (R115). -/
theorem test_readBlock_two_bytes :
    (nx (exec (.readBlock 0x11#8 0x02#8) (answered (session .polling .blRd false 0x03#8) 0x1234ABCD#32))).map
        (fun t => (t.blk.b0, t.blk.b1, t.blk.b2, t.blk.b3)) = some (0x12#8, 0x34#8, 0x00#8, 0x00#8) := by decide

/-- P1 step 9. -/
theorem test_writeByte_handshake :
    (nx (step (answered (shaking .cfgMmWr) 0#32))).map (fun t => (t.pc, transactionsOf t.events)) =
      some (.cfgStMode, [(0x30010010#32, .done)]) := by decide
/-- 2.2: BusError on the write. -/
theorem test_writeByte_busError :
    (nx (step (failed (session .polling .sdmWr false 0x02#8)))).map (fun t => (t.topState, t.pc, t.rsp)) =
      some (.faulted, .idle, some ⟨.fault, 0x0001#16⟩) := by decide

/-- P1 step 6. -/
theorem test_writeCommand_app_start :
    (nx (step (answered (shaking .cfgAppstart) 0#32))).map (fun t => (t.pc, transactionsOf t.events)) =
      some (.cfgStApp, [(0x40F40000#32, .done)]) := by decide
/-- R266: without an answer the request stays outstanding. -/
theorem test_writeCommand_waits :
    (nx (step (shaking .cfgAppstart))).map (fun t => (t.pc, t.breq, t.events)) =
      some (.cfgAppstart, some 0x40F40000#32, []) := by decide

/-- withFetchWord places the word the next step runs, also from reset. -/
theorem test_withFetchWord :
    (State.reset.withFetchWord 16 0x0620).fetch = .instr (.decodeError 0x20#8) ∧
    (State.reset.withFetchWord 32 0x20020400).fetch = .instr (.readBlock 0x02#8 0x04#8) ∧
    decodeTableWord 16 0x0620 = some (.decodeError 0x20#8) ∧
    decodeTableWord 32 0x20020400 = some (.readBlock 0x02#8 0x04#8) := by decide

/-! Witnesses: concrete states and operands that meet the hypotheses of the statements that have some. -/

theorem witness_DecodedWordEncodesBack :
    decode (.command 0x02FF#16) = .ok (.setDriveMode 0xFF#8) ∧
    decode (.busRequest 0x2002FF00#32) = .ok (.readBlock 0x02#8 0xFF#8) := by decide

/-- The boundaries of the reserved spaces. -/
theorem witness_ReservedWordsAreRejected :
    (presented .uninitialized 0x0700#16).pins.rstN = true ∧ (presented .uninitialized 0x0700#16).breq = none ∧
    (presented .uninitialized 0x0700#16).accepting ∧
    (presented .uninitialized 0x0700#16).pins.cmd = some 0x0700#16 ∧ ReservedCommand 0x0000#16 ∧
    ReservedCommand 0x0700#16 ∧ ReservedCommand 0xFFFF#16 ∧ ReservedCommand 0x0101#16 ∧ ReservedCommand 0x05FF#16 := by
  unfold State.accepting ReservedCommand; decide

theorem witness_accepting :
    (presented .uninitialized 0x0100#16).accepting ∧ (presented .uninitialized 0x0100#16).topState = .uninitialized ∧
    (presented .polling 0x0500#16).accepting ∧ (presented .polling 0x0500#16).topState = .polling ∧
    (presented .stopped 0x063F#16).accepting := by
  unfold State.accepting; decide

/-- Each clause of IllegalCommandsAreRejected. -/
theorem witness_IllegalCommandsAreRejected :
    (presented .faulted 0x0500#16).accepting ∧ (presented .faulted 0x0500#16).topState = .faulted ∧
    (presented .polling 0x0100#16).accepting ∧ (presented .polling 0x0100#16).topState = .polling ∧
    (presented .uninitialized 0x02FF#16).accepting ∧
    (presented .uninitialized 0x02FF#16).topState = .uninitialized ∧
    encode .run = .command 0x0500#16 ∧ encode .configure = .command 0x0100#16 ∧
    encode (.setDriveMode 0xFF#8) = .command 0x02FF#16 ∧ ReservedCommand 0x0101#16 := by
  unfold State.accepting ReservedCommand; decide

theorem witness_BusyControllerAcceptsNoCommand :
    isHostCommand .pollOnce = true ∧ (shaking .cfgHwid).pc ≠ .idle ∧ (shaking .cfgHwid).pins.rstN = true ∧
    (shaking .cfgHwid).pins.cmd = none ∧ ∃ t, step (shaking .cfgHwid) = .next t := by
  exact ⟨by decide, by decide, by decide, by decide, _, rfl⟩

/-- Both clauses of IdleCancellationComesFirst. -/
theorem witness_IdleCancellationComesFirst :
    (∃ s : State, s.pins.rstN = true ∧ s.breq = none ∧ s.pc = .idle ∧ s.cancelReq = true ∧
      s.topState = .uninitialized ∧ s.pins.cmd = some 0x0100#16) ∧
    (∃ s : State, s.pins.rstN = true ∧ s.breq = none ∧ s.pc = .idle ∧ s.cancelReq = true ∧ s.topState = .polling) ∧
    (∃ s : State, s.pins.rstN = true ∧ s.breq = none ∧ s.pc = .idle ∧ s.topState = .faulted) :=
  ⟨⟨{ presented .uninitialized 0x0100#16 with cancelReq := true }, by decide⟩,
    ⟨{ presented .polling 0x0400#16 with cancelReq := true }, by decide⟩, ⟨presented .faulted 0x0300#16, by decide⟩⟩

theorem witness_CommandAcceptanceFrame :
    isHostCommand .run = true ∧ ∃ t, exec .run (presented .polling 0x0500#16) = .next t := ⟨by decide, _, rfl⟩

theorem witness_OpenIsTheFirstStep :
    (Inputs.answering ⟨false, 0#32⟩).rstN = true ∧ (Inputs.answering ⟨false, 0#32⟩).bus = some ⟨false, 0#32⟩ ∧
    (Inputs.answering ⟨true, 0#32⟩).rstN = true ∧ (Inputs.answering ⟨true, 0#32⟩).bus = some ⟨true, 0#32⟩ := by decide

/-- Both clauses of IdentityCheck, the second one bit away from the first. -/
theorem witness_IdentityCheck :
    (answered (shaking .cfgHwid) 0x81000000#32).pc = .cfgHwid ∧
    (answered (shaking .cfgHwid) 0x81000000#32).pins.bus = some ⟨false, 0x81000000#32⟩ ∧
    (0x81000000#32 : Word).extractLsb' 24 8 = 0x81#8 ∧
    (answered (shaking .cfgHwid) 0x80FFFFFF#32).pins.bus = some ⟨false, 0x80FFFFFF#32⟩ ∧
    (0x80FFFFFF#32 : Word).extractLsb' 24 8 ≠ 0x81#8 := by decide

/-- A state at any label whose tick answers any word: what the statements about one label's transaction assume. -/
theorem witness_answered (t : TopState) (l : Label) (run : Bool) (op : Byte) (d : Word) :
    (answered (session t l run op) d).pc = l ∧ (answered (session t l run op) d).inRun = run ∧
    (answered (session t l run op) d).pins.bus = some ⟨false, d⟩ ∧
    (failed (session t l run op)).pc = l ∧ (failed (session t l run op)).pins.bus = some ⟨true, 0x00000000#32⟩ :=
  ⟨rfl, rfl, rfl, rfl, rfl⟩

/-- The two values of each bit tested by ErrorBitChecks, ApplicationValidCheck, HandshakeSuccess and
DataReadyBeforeError, and an empty and a full error byte. -/
theorem witness_status_bits :
    (0x01000000#32 : Word).getLsbD 24 = true ∧ (0xFE000000#32 : Word).getLsbD 24 = false ∧
    (0x10000000#32 : Word).getLsbD 28 = true ∧ (0xEF000000#32 : Word).getLsbD 28 = false ∧
    (0x08000000#32 : Word).getLsbD 27 = true ∧ (0xF6000000#32 : Word).getLsbD 27 = false ∧
    (0xF6000000#32 : Word).getLsbD 24 = false ∧ (0x11000000#32 : Word).getLsbD 27 = false ∧
    (0x11000000#32 : Word).getLsbD 24 = true ∧ (0xC0#8 : Byte).extractLsb' 0 6 = 0#6 ∧
    (0xC0000000#32 : Word).extractLsb' 24 6 = 0#6 := by decide

/-- The success of P1, DEVICE_NOT_FOUND and a BusError at step 1. -/
theorem witness_ConfigureRefinesItsPseudocode :
    (presented .uninitialized 0x0100#16).accepting ∧ (presented .uninitialized 0x0100#16).topState = .uninitialized ∧
    (presented .uninitialized 0x0100#16).faultCode = .none ∧
    (presented .uninitialized 0x0100#16).cancelReq = false ∧ (presented .uninitialized 0x0100#16).breq = none ∧
    specConfigure [⟨false, 0x81000000#32⟩, ⟨false, 0x10000000#32⟩, ⟨false, 0x10000000#32⟩, ⟨false, 0#32⟩,
        ⟨false, 0x90000000#32⟩, ⟨false, 0#32⟩, ⟨false, 0#32⟩, ⟨false, 0x90000000#32⟩] =
      some (.none, [0x10200000#32, 0x10000000#32, 0x10000000#32, 0x40F40000#32, 0x10000000#32, 0x10010000#32,
        0x30010010#32, 0x10000000#32]) ∧
    specConfigure [⟨false, 0x80000000#32⟩] = some (.deviceNotFound, [0x10200000#32]) ∧
    specConfigure [⟨true, 0#32⟩] = some (.busError, [0x10200000#32]) := by
  unfold State.accepting; decide

theorem witness_SetDriveModeReadsThenWrites :
    (0xCF#8 : Byte) = (0xFF#8 &&& 0x8F#8) ||| (BitVec.ofNat 8 (min (0x07#8 : Byte).toNat 4) <<< 4) := by decide

/-- The ends of both ranges of DriveModeClamps and DriveModeKeepsOtherBits. -/
theorem witness_DriveModeClamps :
    5 ≤ (0x05#8 : Byte).toNat ∧ 5 ≤ (0xFF#8 : Byte).toNat ∧ (0x00#8 : Byte).toNat ≤ 4 ∧ (0x04#8 : Byte).toNat ≤ 4 ∧
    (session .polling .sdmRd false 0x02#8).pc = .sdmRd ∧ (session .polling .sdmWr false 0x02#8).pc = .sdmWr := by
  decide

theorem witness_OnlyMeasModeIsWritten :
    (shaking .cfgMmWr).labelTransaction = some (.writeByte 0x01#8 0x10#8) ∧
    (session .polling .sdmWr false 0x02#8).labelTransaction = some (.writeByte 0x01#8 0x00#8) := by decide

/-- Both checkpoints, and a state of the handshake and one of an iteration that step. -/
theorem witness_CheckpointsTakeCancellation :
    (polling .runChkHead true).pins.rstN = true ∧ (polling .runChkHead true).breq = none ∧
    (polling .runChkHead true).pc = .runChkHead ∧ (polling .runChkPre true).pc = .runChkPre ∧
    (shaking .cfgStMode).pc.inHandshake = true ∧ (shaking .cfgStMode).topState ≠ .stopped ∧
    (polling .pollSt true).pc.inIteration = true ∧ (polling .pollSt true).topState ≠ .stopped ∧
    (∃ t, step (shaking .cfgStMode) = .next t) ∧ ∃ t, step (polling .pollSt true) = .next t :=
  ⟨by decide, by decide, by decide, by decide, by decide, by decide, by decide, by decide, ⟨_, rfl⟩, ⟨_, rfl⟩⟩

/-- A SLEEP in the tick the timer fires and a cancellation comes, and one already latched. -/
theorem witness_OnlyTheTimerEndsASleep :
    ∃ s : State, s.pins.rstN = true ∧ s.breq = none ∧ s.pc = .sleep ∧ s.pins.timer = true ∧
      (s.cancelReq || s.pins.cancel) = true ∧ (∀ p ∈ s.env, p.rstN = true) :=
  ⟨(polling .sleep true).withInputs [{ Inputs.quiet with timer := true, cancel := true }, Inputs.quiet], by decide⟩

/-- W11. -/
theorem witness_RunReportsReadingThenFault :
    (polling .runChkHead true).pc = .runChkHead ∧ (polling .runChkHead true).topState = .polling ∧
    (polling .runChkHead true).inRun = true ∧ (polling .runChkHead true).cancelReq = false ∧
    (polling .runChkHead true).breq = none ∧ (0x98000000#32 : Word).getLsbD 27 = true ∧
    (0x91000000#32 : Word).getLsbD 27 = false ∧ (0x91000000#32 : Word).getLsbD 24 = true := by decide

/-- The ends of the ranges of DecoderMonotone: a lower bit, bits 6 and 7, a higher bit of 5:0. -/
theorem witness_DecoderMonotone :
    decodeErrorByte 0x02#8 = .readRegInvalid ∧ decodeErrorByte 0x02#8 ≠ .noFault ∧
    0 + 1 < (decodeErrorByte 0x02#8).code.toNat ∧ (decodeErrorByte 0x02#8).code.toNat < 2 + 1 ∧
    (decodeErrorByte 0x02#8).code.toNat < 5 + 1 := by decide

/-- At OPEN (no response) and at a busy label. -/
theorem witness_BusErrorTakesSessionFault :
    encode (.readByte 0x20#8) = .busRequest 0x10200000#32 ∧
    (failed State.reset).pc = .openBus ∧ (failed State.reset).pins.bus = some ⟨true, 0#32⟩ ∧
    (failed (shaking .cfgHwid)).pc = .cfgHwid ∧ (failed (shaking .cfgHwid)).pins.bus = some ⟨true, 0#32⟩ := by decide

theorem witness_UnansweredTransactionHangs :
    (shaking .cfgHwid).labelTransaction = some (.readByte 0x20#8) ∧ busFits (shaking .cfgHwid) = true ∧
    busFits { shaking .cfgHwid with breq := some 0x10200000#32 } = true ∧
    ∀ p ∈ (shaking .cfgHwid).pins :: (shaking .cfgHwid).env, p.rstN = true ∧ p.bus = none := by decide

/-- The ends of the lengths of R114, at a label that issues the block read and at one that does not. -/
theorem witness_ReadBlockCompletes :
    (Instr.readBlock 0x02#8 0x01#8).wf = true ∧ (Instr.readBlock 0x02#8 0x04#8).wf = true ∧
    (answered (polling .pollData true) 0x01020304#32).pins.bus = some ⟨false, 0x01020304#32⟩ ∧
    (polling .pollData true).labelTransaction = some (.readBlock 0x02#8 0x04#8) ∧
    (polling .pollSt true).labelTransaction ≠ some (.readBlock 0x02#8 0x04#8) := by decide

/-- The label's own transactions and others. -/
theorem witness_ReadByteCompletes_WritesComplete :
    (shaking .cfgHwid).labelTransaction = some (.readByte 0x20#8) ∧
    (shaking .cfgHwid).labelTransaction ≠ some (.readByte 0x24#8) ∧
    (shaking .cfgAppstart).labelTransaction = some (.writeCommand 0xF4#8) ∧
    (shaking .cfgAppstart).labelTransaction ≠ some (.writeByte 0x01#8 0x00#8) := by decide

/-- One case of each clause of IgnoredAnswerBitsHaveNoEffect. -/
theorem witness_IgnoredAnswerBitsHaveNoEffect :
    (shaking .cfgHwid).fetch = .instr (.readByte 0x20#8) ∧
    (0x81000000#32 : Word).extractLsb' 24 8 = (0x81ABCDEF#32 : Word).extractLsb' 24 8 ∧
    (session .polling .blRd false 0x03#8).fetch = .instr (.readBlock 0x11#8 0x02#8) ∧
    (∀ k < 2, (0x12340000#32 : Word).extractLsb' (24 - 8 * k) 8 = (0x1234ABCD#32 : Word).extractLsb' (24 - 8 * k) 8) ∧
    (shaking .cfgAppstart).fetch = .instr (.writeCommand 0xF4#8) ∧
    (shaking .cfgMmWr).fetch = .instr (.writeByte 0x01#8 0x10#8) := by decide

/-- OPEN is fetched too, whatever the free bus index. -/
theorem witness_fetch_open : State.reset.fetch = .instr (.openHandle Config.busIndex 0x5B#7) := rfl

theorem witness_UntestedStatusBitsHaveNoEffect :
    (polling .pollSt false).fetch = .instr (.readByte 0x00#8) ∧
    (0x98000000#32 : Word).getLsbD 24 = (0x1E000000#32 : Word).getLsbD 24 ∧
    (0x98000000#32 : Word).getLsbD 27 = (0x1E000000#32 : Word).getLsbD 27 ∧
    (0x98000000#32 : Word).getLsbD 28 = (0x1E000000#32 : Word).getLsbD 28 ∧
    (∃ t, step (answered (polling .pollSt false) 0x98000000#32) = .next t) ∧
    ∃ t, step (answered (polling .pollSt false) 0x1E000000#32) = .next t :=
  ⟨by decide, by decide, by decide, by decide, ⟨_, rfl⟩, ⟨_, rfl⟩⟩

theorem witness_ResetFromEveryState :
    ((shaking .cfgMmWr).withInputs [{ Inputs.quiet with rstN := false }]).pins.rstN = false ∧
    (∃ t, State.Inv { session .faulted .idle false 0x01#8 with faultCode := .busError } ∧
      step { session .faulted .idle false 0x01#8 with faultCode := .busError } = .next t) ∧
    ∃ t, (session .stopped .idle false 0x05#8).Inv ∧ step (session .stopped .idle false 0x05#8) = .next t :=
  ⟨by decide, ⟨_, by decide, rfl⟩, ⟨_, by decide, rfl⟩⟩

/-- The three ports an instruction comes from. -/
theorem witness_StepRunsDecodedInstruction :
    (presented .polling 0x0400#16).pins.rstN = true ∧
    (presented .polling 0x0400#16).portWord = some (.command 0x0400#16) ∧
    decode (.command 0x0400#16) = .ok .pollOnce ∧
    (shaking .cfgHwid).portWord = some (.busRequest 0x10200000#32) ∧
    decode (.busRequest 0x10200000#32) = .ok (.readByte 0x20#8) ∧
    (State.withFetchWord State.reset 32 0x20020400).portWord = some (.busRequest 0x20020400#32) := by decide

/-- The invariant holds in states of every kind, and they step. -/
theorem witness_Inv :
    State.reset.Inv ∧ (presented .uninitialized 0x0100#16).Inv ∧ (shaking .cfgHwid).Inv ∧
    State.Inv { polling .pollData false with st := 0x08#8 } ∧ (polling .sleep true).Inv ∧
    State.Inv { shaking .cfgHwid with breq := some 0x10200000#32 } ∧
    (∃ t, step (presented .uninitialized 0x0100#16) = .next t) ∧ ∃ t, step (shaking .cfgHwid) = .next t :=
  ⟨by decide, by decide, by decide, by decide, by decide, by decide, ⟨_, rfl⟩, ⟨_, rfl⟩⟩

/-- A step for each of the four transitions of OnlyListedSessionTransitions. -/
theorem witness_OnlyListedSessionTransitions :
    (∃ s t : State, s.Inv ∧ s.pins.rstN = true ∧ step s = .next t ∧ t.topState = .configuring ∧
      s.topState = .uninitialized) ∧
    (∃ s t : State, s.Inv ∧ s.pins.rstN = true ∧ step s = .next t ∧ t.topState = .polling ∧
      s.topState = .configuring) ∧
    (∃ s t : State, s.Inv ∧ s.pins.rstN = true ∧ step s = .next t ∧ t.topState = .faulted ∧
      s.topState = .configuring) ∧
    (∃ s t : State, s.Inv ∧ s.pins.rstN = true ∧ step s = .next t ∧ t.topState = .stopped ∧
      s.topState = .polling) :=
  ⟨⟨presented .uninitialized 0x0500#16, _, by decide, by decide, rfl, by decide, by decide⟩,
    ⟨answered (shaking .cfgStMode) 0x90000000#32, _, by decide, by decide, rfl, by decide, by decide⟩,
    ⟨answered (shaking .cfgHwid) 0x80000000#32, _, by decide, by decide, rfl, by decide, by decide⟩,
    ⟨{ polling .runChkHead true with cancelReq := true }, _, by decide, by decide, rfl, by decide, by decide⟩⟩

theorem witness_FaultedUntilReset :
    State.Inv { presented .faulted 0x0300#16 with faultCode := .busError } ∧
    (presented .faulted 0x0300#16).pins.rstN = true ∧ (presented .faulted 0x0300#16).topState = .faulted := by decide

/-- A completion of POLL_ONCE and an immediate DECODE. -/
theorem witness_OneResponsePerCommand :
    (∃ s t : State, s.Inv ∧ s.pins.rstN = true ∧ step s = .next t ∧ t.rsp = some ⟨.ok, 0x0000#16⟩ ∧ s.pc = .pollSt) ∧
    (∃ s t : State, s.Inv ∧ s.pins.rstN = true ∧ step s = .next t ∧ t.rsp = some ⟨.ok, 0x0006#16⟩ ∧ s.pc = .idle) :=
  ⟨⟨answered (polling .pollSt false) 0#32, _, by decide, by decide, rfl, by decide, by decide⟩,
    ⟨presented .polling 0x0620#16, _, by decide, by decide, rfl, by decide, by decide⟩⟩

/-- A report of each kind, and a reading stored. -/
theorem witness_ReportsOnlyWhereListed_OnlyTheDataBranchWritesReadings :
    (∃ s t : State, s.Inv ∧ s.pins.rstN = true ∧ step s = .next t ∧ t.rpt = some (.fault .heaterSupply) ∧
      s.pc = .pollErr) ∧
    (∃ s t : State, s.Inv ∧ s.pins.rstN = true ∧ step s = .next t ∧ t.rpt = some (.reading 258#16 772#16) ∧
      t.readingCo2 = 258#16 ∧ s.pc = .pollData) :=
  ⟨⟨answered { polling .pollErr false with st := 0x01#8 } 0x20000000#32, _, by decide, by decide, rfl, by decide,
      by decide⟩,
    ⟨answered { polling .pollData false with st := 0x08#8 } 0x01020304#32, _, by decide, by decide, rfl, by decide,
      by decide, by decide⟩⟩

/-- A request completed, and one left outstanding. -/
theorem witness_OnlyListedRequestsAreIssued :
    (∃ s t : State, s.Inv ∧ s.pins.rstN = true ∧ step s = .next t ∧ s.pins.bus.isSome = true ∧
      s.requestWord = some 0x10200000#32) ∧
    (∃ s t : State, s.Inv ∧ s.pins.rstN = true ∧ step s = .next t ∧ s.pins.bus.isSome = false ∧
      t.breq = some 0x10200000#32) :=
  ⟨⟨answered (shaking .cfgHwid) 0x81000000#32, _, by decide, by decide, rfl, by decide, by decide⟩,
    ⟨shaking .cfgHwid, _, by decide, by decide, rfl, by decide, by decide⟩⟩

theorem witness_FaultCodeIsWrittenOnce :
    ∃ s t : State, s.Inv ∧ s.pins.rstN = true ∧ step s = .next t ∧ t.faultCode ≠ s.faultCode :=
  ⟨failed (shaking .cfgHwid), _, by decide, by decide, rfl, by decide⟩

/-- Both clauses of HandleIsNeverCleared. -/
theorem witness_HandleIsNeverCleared :
    (∃ s t : State, s.Inv ∧ s.pins.rstN = true ∧ step s = .next t ∧ s.handleValid = false ∧ t.handleValid = true) ∧
    (∃ s t : State, s.Inv ∧ s.pins.rstN = true ∧ step s = .next t ∧ s.handleValid = true) :=
  ⟨⟨answered State.reset 0#32, _, by decide, by decide, rfl, by decide, by decide⟩,
    ⟨failed (shaking .cfgHwid), _, by decide, by decide, rfl, by decide⟩⟩

theorem witness_CancelOnlySetsTheLatch :
    (presented .polling 0x0500#16).pins.rstN = true ∧ ∃ t, step (presented .polling 0x0500#16) = .next t :=
  ⟨by decide, _, rfl⟩

/-- Both values of `reading_valid`, and a step that starts with it set. -/
theorem witness_InvalidReadingFaultsTheObservation :
    State.reset.readingValid = false ∧
    ∃ s t : State, s.pins.rstN = true ∧ s.readingValid = true ∧ step s = .next t :=
  ⟨by decide, { presented .polling 0x0400#16 with readingValid := true }, _, by decide, by decide, rfl⟩

end Sys2Proof.Tests
end

/-! PROOFS. The scope of the model (00_scope.md): what a step runs, and that it always answers. -/

namespace Sys2Proof.Machine

/-! Every meaning answers a next state. -/

theorem acceptCommand_next (w : Half) (legal : TopState → Bool) (body : State → State) (s : State) :
    ∃ t, acceptCommand w legal body s = .next t := by
  rcases acceptCommand_cases w legal body s with ⟨_, e⟩ | ⟨_, _, e⟩ | ⟨_, _, _, e⟩ | ⟨_, _, _, e⟩ <;> exact ⟨_, e⟩

theorem busTransaction_next (req : Word) (res : Word → BusResult) (finish : Word → State → State) (s : State) :
    ∃ t, busTransaction req res finish s = .next t := by
  rcases busTransaction_cases req res finish s with ⟨_, e⟩ | ⟨_, _, e⟩ | ⟨_, _, e⟩ <;> exact ⟨_, e⟩

/-- The meaning of a host command, all six in one form (R107). -/
theorem exec_host (i : Instr) (s : State) (h : isHostCommand i = true) :
    ∃ w legal body, exec i s = acceptCommand w legal body s := by
  cases i with
  | configure | setDriveMode | getBaseline | pollOnce | run | decodeError =>
    simp only [exec, execConfigure, execSetDriveMode, execGetBaseline, execPollOnce, execRun, execDecodeError]
    exact ⟨_, _, _, rfl⟩
  | openHandle | readByte | readBlock | writeByte | writeCommand => cases h

/-- A host command's meaning is an acceptance (R107), a bus transaction's a transaction (R62). -/
theorem exec_next (i : Instr) (s : State) : ∃ t, exec i s = .next t := by
  cases hb : isHostCommand i with
  | false =>
    rw [exec_bus i s hb]
    exact busTransaction_next _ _ _ s
  | true =>
    obtain ⟨w, legal, body, e⟩ := exec_host i s hb
    rw [e]
    exact acceptCommand_next w legal body s

/-! What a step fetches. -/

/-- An outstanding request that is its label's is no reserved word (R116). -/
theorem fetch_ne_reservedBus {s : State} (hf : busFits s = true) (w : Word) : s.fetch ≠ .reservedBus w := by
  cases hl : s.labelTransaction with
  | some i => simp [fetch_fits hf hl]
  | none =>
    have hb := breq_none_of_fits hf hl
    by_cases hp : s.pc = .idle
    · rw [fetch_idle hb hp]
      cases s.pins.cmd with
      | none => simp
      | some c => cases hd : decodeCommand c <;> simp [fetchCommand, hd]
    · simp [fetch_internal hb hl hp]

/-- Only a reserved bus word is refused. -/
theorem runFetched_next (f : Fetched) (s : State) (h : ∀ w, f ≠ .reservedBus w) : ∃ t, runFetched f s = .next t := by
  cases f with
  | instr i => exact exec_next i s
  | reservedCommand w => exact acceptCommand_next w (fun _ => false) (fun t => t) s
  | reservedBus w => exact absurd rfl (h w)
  | internal => exact ⟨_, rfl⟩

/-- A label's transaction is what its word decodes to. -/
theorem decode_encode_labelTransaction {s : State} {i : Instr} (hl : s.labelTransaction = some i) :
    decode (encode i) = .ok i := by
  have hb := labelTransaction_bus hl
  rw [encode_bus i hb]
  exact decodeBus_requestOf i hb

/-- The step fetches what the word on its port decodes to (R18, R22, R23). -/
theorem fetch_of_portWord {s : State} {p : PortWord} {i : Instr} (hp : s.portWord = some p) (hd : decode p = .ok i) :
    s.fetch = .instr i := by
  unfold State.portWord at hp
  split at hp
  next w hb =>
    cases hp
    have hd' : decodeBus w = .ok i := hd
    simp [State.fetch, hb, fetchBus, hd']
  next hb =>
    split at hp
    next j hl =>
      cases hp
      cases (decode_encode_labelTransaction hl).symm.trans hd
      exact fetch_label hb hl
    next =>
      split at hp
      next hi =>
        split at hp
        next w hw =>
          cases hp
          have hd' : decodeCommand w = .ok i := hd
          simp [fetch_idle hb hi, hw, fetchCommand, hd']
        next => cases hp
      next => cases hp

/-- Settles O49: only a reserved word outstanding on the bus is refused, and the invariant allows none. -/
theorem stepNeverStops : Obligations.StepNeverStops := by
  rintro s ⟨-, -, -, -, -, hf, -, -⟩
  cases hr : s.pins.rstN with
  | false => exact ⟨_, tick_reset s hr⟩
  | true =>
    obtain ⟨t, ht⟩ := runFetched_next s.fetch s.beginStep (fetch_ne_reservedBus hf)
    exact ⟨_, by rw [step_run s hr, ht, mapNext]⟩

/-- Settles O45, from what the step fetches and what its end changes. -/
theorem stepRunsDecodedInstruction : Obligations.StepRunsDecodedInstruction := by
  intro s p i hr hp hd
  rw [step_run s hr, fetch_of_portWord hp hd, funext endStep_eq]
  rfl

end Sys2Proof.Machine

/-! PROOFS. The session invariant (10_state.md): it holds after reset and every step keeps it. -/

namespace Sys2Proof.Machine

/-! Host commands by instruction (30_encoding.md R107). -/

/-- The session states in which a host command is accepted (R107 (c)). -/
def commandLegal : Instr → TopState → Bool
  | .configure => legalConfigure
  | .setDriveMode _ | .getBaseline | .pollOnce => legalInPolling
  | .run => legalRun
  | .decodeError _ | .openHandle _ _ | .readByte _ | .readBlock _ _ | .writeByte _ _ | .writeCommand _ => legalDecode

/-- What the acceptance of a host command does after `cur_op` and `cur_arg` are latched. -/
def commandBody (i : Instr) (s : State) : State :=
  match i with
  | .configure => s.beginHandshake false
  | .setDriveMode _ => s.goto .sdmRd
  | .getBaseline => s.goto .blRd
  | .pollOnce => { s with inRun := false, pc := .pollSt }
  | .run =>
    if s.topState = .uninitialized then s.beginHandshake true else { s with inRun := true, pc := .runChkHead }
  | .decodeError e => s.respond .ok (decodeErrorByte e).responseData
  | .openHandle _ _ | .readByte _ | .readBlock _ _ | .writeByte _ _ | .writeCommand _ => s

/-- The meaning of a host command, all six in one form. -/
theorem exec_command {i : Instr} {w : Half} (h : encode i = .command w) (s : State) :
    exec i s = acceptCommand w (commandLegal i) (commandBody i) s := by
  cases i <;> cases h <;> rfl

theorem withoutOperand_ok {arg : Byte} {i j : Instr} (h : withoutOperand arg i = .ok j) : arg = 0x00#8 ∧ i = j := by
  unfold withoutOperand at h
  split at h
  · exact ⟨‹_›, Except.ok.inj h⟩
  · cases h

theorem command_of_fields {w : Half} {op arg : Byte} (hop : opField w = op) (harg : argField w = arg) :
    PortWord.command (commandWord op arg) = .command w := by
  rw [← hop, ← harg, commandWord_fields]

/-- A decoded command word is the word of its instruction. -/
theorem encode_of_decodeCommand {w : Half} {i : Instr} (h : decodeCommand w = .ok i) : encode i = .command w := by
  have without : ∀ (op : Byte) (j : Instr), opField w = op → encode j = .command (commandWord op 0x00#8) →
      withoutOperand (argField w) j = .ok i → encode i = .command w := by
    intro op j hop hj hw
    obtain ⟨harg, rfl⟩ := withoutOperand_ok hw
    rw [hj, command_of_fields hop harg]
  unfold decodeCommand at h
  split_ifs at h with h1 h2 h3 h4 h5 h6
  · exact without _ _ h1 rfl h
  · cases h
    exact command_of_fields h2 rfl
  · exact without _ _ h3 rfl h
  · exact without _ _ h4 rfl h
  · exact without _ _ h5 rfl h
  · cases h
    exact command_of_fields h6 rfl

/-! Everything a step out of reset can do (00_scope.md R18). -/

/-- `s.Moves u`: a step out of reset can take `s` to `u`, before its end, while an outstanding request is that of the
label at `pc`. -/
inductive State.Moves (s : State) : State → Prop where
  /-- The agent has not answered the label's transaction (R266). -/
  | waits {i : Instr} (hl : s.labelTransaction = some i) (hb : s.pins.bus = none) :
      s.Moves { s.beginStep with breq := some (requestOf i) }
  /-- `BusError` (R221). -/
  | fails {i : Instr} {d : Word} (hl : s.labelTransaction = some i) (hb : s.pins.bus = some ⟨true, d⟩) :
      s.Moves ((s.beginStep.completeBus (requestOf i) .busError).sessionFault .busError)
  /-- The label's transaction completes, and the label goes on. -/
  | completes {i : Instr} {d : Word} (hl : s.labelTransaction = some i) (hb : s.pins.bus = some ⟨false, d⟩) :
      s.Moves ((s.beginStep.completeBus (requestOf i) (resultOf i d)).latched i d).labelDone
  /-- IDLE without a command, SLEEP without the timer (log 1). -/
  | rests (hp : s.pc = .idle ∨ s.pc = .sleep) : s.Moves s.beginStep
  /-- A cancellation at IDLE (R182). -/
  | cancels (hp : s.pc = .idle) (hc : s.cancelPending = true) : s.Moves s.beginStep.idleCancel
  /-- A reserved or illegal command (R107, R223). -/
  | rejects {w : Half} (hp : s.pc = .idle) (hw : s.pins.cmd = some w) :
      s.Moves ((s.beginStep.latchCommand w).respond .rejected 0x0000#16)
  /-- An accepted command (R107). -/
  | accepts {i : Instr} {w : Half} (hp : s.pc = .idle) (hw : s.pins.cmd = some w) (hi : encode i = .command w)
      (hl : commandLegal i s.topState = true) : s.Moves (commandBody i (s.beginStep.latchCommand w))
  /-- A checkpoint of RUN takes the cancellation (R181). -/
  | stops (hp : s.pc = .runChkPre ∨ s.pc = .runChkHead) (hc : s.cancelReq = true) : s.Moves s.beginStep.stopRun
  /-- A checkpoint of RUN passed (R181), or the timer's end of a sleep (R180). -/
  | goes {l : Label} (hp : s.pc = .runChkPre ∧ l = .sleep ∨ s.pc = .sleep ∧ l = .runChkHead ∨
      s.pc = .runChkHead ∧ l = .pollSt) : s.Moves (s.beginStep.goto l)

/-- At IDLE, by the pending cancellation, the command port and the legality table (R107, R182). -/
theorem moves_at_idle {s t : State} (hr : s.pins.rstN = true) (hb : s.breq = none) (hp : s.pc = .idle)
    (h : step s = .next t) : ∃ u, s.Moves u ∧ t = u.endStep := by
  rcases step_at_idle hr hb hp with ⟨hc, e⟩ | ⟨-, -, e⟩ | ⟨w, -, -, hw, -, e⟩ | ⟨w, i, hc, hw, hd, e⟩ <;>
    rw [h] at e
  · exact ⟨_, .cancels hp hc, Host.Outcome.next.inj e⟩
  · exact ⟨_, .rests (.inl hp), Host.Outcome.next.inj e⟩
  · exact ⟨_, .rejects hp hw, Host.Outcome.next.inj e⟩
  · have hi := encode_of_decodeCommand hd
    obtain ⟨u, he, rfl⟩ := (mapNext_next _ _ _).mp e.symm
    rw [exec_command hi] at he
    rcases acceptCommand_cases w (commandLegal i) (commandBody i) s.beginStep with
      ⟨hn, -⟩ | ⟨-, hc', -⟩ | ⟨-, -, hl, e'⟩ | ⟨-, -, -, e'⟩
    · exact absurd hp hn
    · exact absurd (hc.symm.trans hc') Bool.false_ne_true
    · exact ⟨_, .accepts hp hw hi hl, by rw [Host.Outcome.next.inj (he.symm.trans e')]⟩
    · exact ⟨_, .rejects hp hw, by rw [Host.Outcome.next.inj (he.symm.trans e')]⟩

/-- At RUN's labels without transaction, by the latch or the timer. -/
theorem moves_internalStep {s : State} (hp : s.pc = .runChkPre ∨ s.pc = .sleep ∨ s.pc = .runChkHead) :
    s.Moves s.beginStep.internalStep := by
  rcases hp with hp | hp | hp <;> simp only [State.internalStep, State.beginStep_pc, hp, State.checkpoint,
    State.sleepTick] <;> split
  · exact .stops (.inl hp) ‹_›
  · exact .goes (.inl ⟨hp, rfl⟩)
  · exact .goes (.inr (.inl ⟨hp, rfl⟩))
  · exact .rests (.inr hp)
  · exact .stops (.inr hp) ‹_›
  · exact .goes (.inr (.inr ⟨hp, rfl⟩))

/-- A step out of reset is one of the moves, with the end of the step after it. -/
theorem step_moves {s t : State} (hr : s.pins.rstN = true) (hf : busFits s = true) (h : step s = .next t) :
    ∃ u, s.Moves u ∧ t = u.endStep := by
  cases hl : s.labelTransaction with
  | some i =>
    rcases step_at_label hr hf hl with ⟨hb, e⟩ | ⟨d, hb, e⟩ | ⟨d, hb, e⟩ <;> rw [h] at e
    · exact ⟨_, .waits hl hb, Host.Outcome.next.inj e⟩
    · exact ⟨_, .fails hl hb, Host.Outcome.next.inj e⟩
    · exact ⟨_, .completes hl hb, Host.Outcome.next.inj e⟩
  | none =>
    have hb := breq_none_of_fits hf hl
    rcases labelTransaction_none hl with hp | hp
    · exact moves_at_idle hr hb hp h
    · exact ⟨_, moves_internalStep hp, Host.Outcome.next.inj (h.symm.trans (step_at_run_label hr hb hp))⟩

/-! The session invariant, by the kind of the label at `pc`. -/

theorem inv_idle_iff {s : State} (hp : s.pc = .idle) :
    s.Inv ↔ s.topState ≠ .configuring ∧ s.inRun = false ∧ faultFits s.topState s.faultCode = true ∧
      (s.handleValid = true ∨ s.topState = .faulted) ∧ readingFits s = true ∧ s.breq = none := by
  have hbus : busFits s = true ↔ s.breq = none := by
    cases h : s.breq <;> simp [busFits, h, State.labelTransaction, hp]
  have hlatch : latchFits s = true := by simp [latchFits, hp, Label.inHandshake]
  have hop : opFits s = true := by simp [opFits, hp]
  rw [State.Inv, hbus, hlatch, hop]
  simp [sessionFits, runFits, handleFits, hp, Label.inRunOnly, Label.inHandshake, Label.inIteration]

theorem inv_openBus_iff {s : State} (hp : s.pc = .openBus) :
    s.Inv ↔ s.topState = .uninitialized ∧ s.inRun = false ∧ s.faultCode = .none ∧ s.handleValid = false ∧
      s.readingValid = false ∧ busFits s = true := by
  have hlatch : latchFits s = true := by simp [latchFits, hp, Label.inHandshake]
  have hop : opFits s = true := by simp [opFits, hp]
  rw [State.Inv, hlatch, hop]
  simp +contextual [sessionFits, runFits, faultFits, handleFits, readingFits, hp, Label.inRunOnly, Label.inHandshake,
    Label.inIteration]

theorem inv_handshake_iff {s : State} (hp : s.pc.inHandshake = true) :
    s.Inv ↔ s.topState = .configuring ∧ s.faultCode = .none ∧ s.handleValid = true ∧ s.readingValid = false ∧
      busFits s = true ∧ latchFits s = true ∧ s.curOp = if s.inRun then 0x05#8 else 0x01#8 := by
  have hne : s.pc ≠ .idle ∧ s.pc ≠ .openBus := by constructor <;> intro h <;> rw [h] at hp <;> cases hp
  have hrun : s.pc.inRunOnly = false := by revert hp; cases s.pc <;> decide
  have hop : opFits s = true ↔ s.curOp = if s.inRun then 0x05#8 else 0x01#8 := by
    cases h : s.inRun <;> simp [opFits, hne, hp, h]
  rw [State.Inv, hop]
  simp +contextual [sessionFits, runFits, faultFits, handleFits, readingFits, hp, hne, hrun]

/-- A session that has been configured and goes on: what the invariant says at every busy label outside the
handshake (R21, R26, R27). -/
def State.Polls (s : State) : Prop := s.topState = .polling ∧ s.faultCode = .none ∧ s.handleValid = true

theorem inv_polling_iff {s : State} (hi : s.pc ≠ .idle) (ho : s.pc ≠ .openBus) (hp : s.pc.inHandshake = false) :
    s.Inv ↔ s.Polls ∧ runFits s.inRun s.pc = true ∧ busFits s = true ∧ latchFits s = true ∧ opFits s = true := by
  by_cases ht : s.topState = .polling
  · simp only [State.Inv, State.Polls, sessionFits, faultFits, handleFits, readingFits, hp, hi, ho, ht]
    simp [and_assoc, and_left_comm]
  · simp [State.Inv, State.Polls, sessionFits, hp, hi, ho, ht]

theorem inv_iteration_iff {s : State} (hp : s.pc = .pollSt ∨ s.pc = .pollData ∨ s.pc = .pollErr) :
    s.Inv ↔ s.Polls ∧ busFits s = true ∧ latchFits s = true ∧ s.curOp = if s.inRun then 0x05#8 else 0x04#8 := by
  rcases hp with hp | hp | hp <;> cases hr : s.inRun <;>
    simp [inv_polling_iff, runFits, opFits, hp, hr, Label.inRunOnly, Label.inHandshake, Label.inIteration]

theorem inv_run_iff {s : State} (hp : s.pc = .runChkPre ∨ s.pc = .sleep ∨ s.pc = .runChkHead) :
    s.Inv ↔ s.Polls ∧ s.breq = none ∧ s.inRun = true ∧ s.curOp = 0x05#8 := by
  have hbus : busFits s = true ↔ s.breq = none := by
    rcases hp with hp | hp | hp <;> cases h : s.breq <;> simp [busFits, h, State.labelTransaction, hp]
  rcases hp with hp | hp | hp <;> cases hr : s.inRun <;>
    simp [inv_polling_iff, hbus, runFits, latchFits, opFits, hp, hr, Label.inRunOnly, Label.inHandshake]

theorem inv_mode_iff {s : State} (hp : s.pc = .sdmRd ∨ s.pc = .sdmWr ∨ s.pc = .blRd) :
    s.Inv ↔ s.Polls ∧ s.inRun = false ∧ busFits s = true ∧ s.curOp = if s.pc = .blRd then 0x03#8 else 0x02#8 := by
  rcases hp with hp | hp | hp <;> cases hr : s.inRun <;>
    simp [inv_polling_iff, runFits, latchFits, opFits, hp, hr, Label.inRunOnly, Label.inHandshake, Label.inIteration]

/-! The latches (10_state.md R32). -/

/-- A transaction latches the handle, a tested byte or the block, and leaves every other field. -/
theorem latched_frame (i : Instr) (d : Word) (s : State) :
    ∃ hv id st er mm blk, s.latched i d =
      { s with handleValid := hv, id := id, st := st, er := er, mm := mm, blk := blk } := by
  cases i with
  | readByte a =>
    rcases latchByte_cases s a (answerByte d 0) with ⟨-, e⟩ | ⟨-, e⟩ | ⟨-, e⟩ | ⟨-, e⟩ | ⟨-, -, -, -, e⟩ <;>
      exact ⟨_, _, _, _, _, _, e⟩
  | openHandle | readBlock | writeByte | writeCommand | configure | setDriveMode | getBaseline | pollOnce | run
  | decodeError => exact ⟨_, _, _, _, _, _, rfl⟩

section
variable (i : Instr) (d : Word) (s : State)

@[simp] theorem latched_topState : (s.latched i d).topState = s.topState := by
  obtain ⟨_, _, _, _, _, _, e⟩ := latched_frame i d s; rw [e]
@[simp] theorem latched_pc : (s.latched i d).pc = s.pc := by
  obtain ⟨_, _, _, _, _, _, e⟩ := latched_frame i d s; rw [e]
@[simp] theorem latched_inRun : (s.latched i d).inRun = s.inRun := by
  obtain ⟨_, _, _, _, _, _, e⟩ := latched_frame i d s; rw [e]
@[simp] theorem latched_curOp : (s.latched i d).curOp = s.curOp := by
  obtain ⟨_, _, _, _, _, _, e⟩ := latched_frame i d s; rw [e]
@[simp] theorem latched_curArg : (s.latched i d).curArg = s.curArg := by
  obtain ⟨_, _, _, _, _, _, e⟩ := latched_frame i d s; rw [e]
@[simp] theorem latched_faultCode : (s.latched i d).faultCode = s.faultCode := by
  obtain ⟨_, _, _, _, _, _, e⟩ := latched_frame i d s; rw [e]
@[simp] theorem latched_readingCo2 : (s.latched i d).readingCo2 = s.readingCo2 := by
  obtain ⟨_, _, _, _, _, _, e⟩ := latched_frame i d s; rw [e]
@[simp] theorem latched_readingTvoc : (s.latched i d).readingTvoc = s.readingTvoc := by
  obtain ⟨_, _, _, _, _, _, e⟩ := latched_frame i d s; rw [e]
@[simp] theorem latched_readingValid : (s.latched i d).readingValid = s.readingValid := by
  obtain ⟨_, _, _, _, _, _, e⟩ := latched_frame i d s; rw [e]
@[simp] theorem latched_breq : (s.latched i d).breq = s.breq := by
  obtain ⟨_, _, _, _, _, _, e⟩ := latched_frame i d s; rw [e]

end

/-- The label OPEN issues the only transaction that sets the handle. -/
theorem latched_handleValid {s : State} {i : Instr} (hl : s.labelTransaction = some i) (d : Word) (u : State) :
    (u.latched i d).handleValid = (u.handleValid || s.pc == .openBus) := by
  cases hp : s.pc <;> simp only [State.labelTransaction, hp] at hl <;> cases hl <;>
    simp [State.latched]

/-! Completing a transaction keeps the invariant. -/

/-- No request outstanding fits every label. -/
theorem busFits_of_none {s : State} (h : s.breq = none) : busFits s = true := by simp [busFits, h]

/-- A transaction overwrites no latch that its own label was reached through a test of. -/
theorem latchFits_latched {s u : State} {i : Instr} (hl : s.labelTransaction = some i) (hp : u.pc = s.pc)
    (hu : latchFits u = true) (d : Word) : latchFits (u.latched i d) = true := by
  cases hs : s.pc <;> simp only [State.labelTransaction, hs] at hl <;> cases hl <;>
    simp_all [latchFits, State.latched, State.latchBlock, Label.inHandshake]

/-- Entering a fault, from any state, gives a state that fits FAULTED. -/
theorem inv_sessionFault {s : State} {f : SessionFault} (hb : s.breq = none) (hf : f ≠ .none) :
    (s.sessionFault f).Inv := by
  rw [inv_idle_iff (sessionFault_pc s f)]
  simp [faultFits, readingFits, hb, hf]

/-- The end of a command in POLLING. -/
theorem inv_goto_idle {s : State} (hb : s.breq = none) (hs : s.Polls) (hrun : s.inRun = false) :
    (s.goto .idle).Inv := by
  obtain ⟨ht, hf, hh⟩ := hs
  rw [inv_idle_iff (State.goto_pc s .idle)]
  simp [faultFits, readingFits, hb, ht, hrun, hf, hh]

/-- The end of an iteration (R176). -/
theorem inv_endIteration {s : State} (hb : s.breq = none) (hs : s.Polls)
    (ho : s.curOp = if s.inRun then 0x05#8 else 0x04#8) (branch : Half) : (s.endIteration branch).Inv := by
  unfold State.endIteration
  split
  next hr => exact (inv_run_iff (.inl rfl)).mpr ⟨hs, hb, hr, by simpa [hr] using ho⟩
  next hr => exact inv_goto_idle (s := s.respond .ok branch) hb hs (by simpa using hr)

/-- From one label of the handshake to a later one. -/
theorem inv_goto_handshake {s : State} {l : Label} (hs : s.Inv) (hb : s.breq = none) (hp : s.pc.inHandshake = true)
    (hl : l.inHandshake = true) (hlatch : latchFits (s.goto l) = true) : (s.goto l).Inv := by
  obtain ⟨ht, hf, hh, hr, -, -, ho⟩ := (inv_handshake_iff hp).mp hs
  exact (inv_handshake_iff hl).mpr ⟨ht, hf, hh, hr, busFits_of_none hb, hlatch, ho⟩

/-- The success of the handshake (R131). -/
theorem inv_handshakeDone {s : State} (hs : s.Inv) (hb : s.breq = none) (hp : s.pc.inHandshake = true) :
    s.handshakeDone.Inv := by
  obtain ⟨-, hf, hh, -, -, -, ho⟩ := (inv_handshake_iff hp).mp hs
  unfold State.handshakeDone
  simp only
  split
  next hr => exact (inv_run_iff (.inr (.inr rfl))).mpr ⟨⟨rfl, hf, hh⟩, hb, hr, by simpa [hr] using ho⟩
  next hr =>
    exact inv_goto_idle (s := State.respond .ok 0x0000#16 { s with topState := .polling }) hb ⟨rfl, hf, hh⟩
      (by simpa using hr)

/-- The labels of the handshake keep the invariant as they complete (R122). -/
theorem inv_labelDone_handshake {s : State} (hs : s.Inv) (hb : s.breq = none) (hh : s.pc.inHandshake = true) :
    s.labelDone.Inv := by
  obtain ⟨-, -, -, -, -, hlatch, -⟩ := (inv_handshake_iff hh).mp hs
  have onward : ∀ l : Label, l.inHandshake = true → latchFits (s.goto l) = true → (s.goto l).Inv :=
    fun _ => inv_goto_handshake hs hb hh
  cases hp : s.pc with
  | cfgHwid =>
    simp only [State.labelDone, hp, State.cfgHwidDone]
    split
    next => exact inv_sessionFault hb (by decide)
    next hid => exact onward _ rfl (by simpa [latchFits, Label.inHandshake] using hid)
  | cfgStBoot | cfgStApp =>
    simp only [State.labelDone, hp, State.cfgStBootDone, State.cfgStAppDone]
    split <;> exact onward _ rfl (by simp_all [latchFits, Label.inHandshake])
  | cfgStValid =>
    simp only [State.labelDone, hp, State.cfgStValidDone]
    split
    next => exact onward _ rfl (by simp_all [latchFits, Label.inHandshake])
    next => exact inv_sessionFault hb (by decide)
  | cfgAppstart | cfgMmRd | cfgMmWr =>
    simp only [State.labelDone, hp]
    exact onward _ rfl (by simp_all [latchFits, Label.inHandshake])
  | cfgStMode =>
    simp only [State.labelDone, hp, State.cfgStModeDone]
    split
    next => exact onward _ rfl (by simp_all [latchFits, Label.inHandshake])
    next => exact inv_handshakeDone hs hb hh
  | cfgErrBoot | cfgErrApp | cfgErrMode =>
    simp only [State.labelDone, hp]
    exact inv_sessionFault hb (by decide)
  | idle | openBus | sdmRd | sdmWr | blRd | pollSt | pollData | pollErr | runChkPre | sleep | runChkHead =>
    rw [hp] at hh
    cases hh

/-- The labels of an iteration keep the invariant as they complete (R171). -/
theorem inv_labelDone_iteration {s : State} (hs : s.Inv) (hb : s.breq = none)
    (hp : s.pc = .pollSt ∨ s.pc = .pollData ∨ s.pc = .pollErr) : s.labelDone.Inv := by
  obtain ⟨hpoll, -, -, ho⟩ := (inv_iteration_iff hp).mp hs
  have onward : ∀ l : Label, l = .pollData ∨ l = .pollErr → latchFits (s.goto l) = true → (s.goto l).Inv :=
    fun l hl hlatch => (inv_iteration_iff (.inr hl)).mpr ⟨hpoll, busFits_of_none hb, hlatch, ho⟩
  rcases hp with hp | hp | hp
  · simp only [State.labelDone, hp, State.pollStDone]
    split
    next hd => exact onward _ (.inl rfl) (by simp [latchFits, Label.inHandshake, hd])
    next hd =>
      split
      next he => exact onward _ (.inr rfl) (by simp [latchFits, Label.inHandshake, hd, he])
      next => exact inv_endIteration hb hpoll ho _
  · simp only [State.labelDone, hp]
    exact inv_endIteration (s := (s.storeReading _ _).emit _) hb hpoll ho _
  · simp only [State.labelDone, hp]
    exact inv_endIteration (s := s.emit _) hb hpoll ho _

/-- The labels of SET_DRIVE_MODE and GET_BASELINE keep the invariant as they complete (R151, R155). -/
theorem inv_labelDone_mode {s : State} (hs : s.Inv) (hb : s.breq = none)
    (hp : s.pc = .sdmRd ∨ s.pc = .sdmWr ∨ s.pc = .blRd) : s.labelDone.Inv := by
  obtain ⟨hpoll, hr, -, ho⟩ := (inv_mode_iff hp).mp hs
  rcases hp with hp | hp | hp <;> simp only [State.labelDone, hp]
  · exact (inv_mode_iff (.inr (.inl rfl))).mpr ⟨hpoll, hr, busFits_of_none hb, by simpa [hp, State.sdmRdDone] using ho⟩
  · exact inv_goto_idle (s := s.respond _ _) hb hpoll hr
  · exact inv_goto_idle (s := s.respond _ _) hb hpoll hr

/-- What a label's step does once its transaction has completed keeps the invariant; at OPEN the handle has just been
acquired, and the invariant of OPEN no longer holds. -/
theorem inv_labelDone {s : State} (hs : s.Inv) (hb : s.breq = none) (hopen : s.pc ≠ .openBus) : s.labelDone.Inv := by
  cases hp : s.pc with
  | idle | runChkPre | sleep | runChkHead => simpa only [State.labelDone, hp] using hs
  | openBus => exact absurd hp hopen
  | cfgHwid | cfgStBoot | cfgErrBoot | cfgStValid | cfgAppstart | cfgStApp | cfgErrApp | cfgMmRd | cfgMmWr | cfgStMode
  | cfgErrMode => exact inv_labelDone_handshake hs hb (by rw [hp]; rfl)
  | sdmRd | sdmWr | blRd => exact inv_labelDone_mode hs hb (by simp [hp])
  | pollSt | pollData | pollErr => exact inv_labelDone_iteration hs hb (by simp [hp])

/-- Filling a latch keeps the invariant at every label but OPEN. -/
theorem inv_latched {s u : State} {i : Instr} (hl : s.labelTransaction = some i) (hopen : s.pc ≠ .openBus)
    (hp : u.pc = s.pc) (hb : u.breq = none) (hu : u.Inv) (d : Word) : (u.latched i d).Inv := by
  obtain ⟨hsession, hrun, hfault, hhandle, hreading, -, hlatch, hop⟩ := hu
  have hv : (u.latched i d).handleValid = u.handleValid := by simp [latched_handleValid hl, hopen]
  exact ⟨by simpa using hsession, by simpa using hrun, by simpa using hfault, by simpa [handleFits, hv] using hhandle,
    by simpa [readingFits] using hreading, busFits_of_none (by simp [hb]), latchFits_latched hl hp hlatch d,
    by simpa [opFits] using hop⟩

/-- The request of the label's own transaction fits it. -/
theorem busFits_of_request {s : State} {i : Instr} (hb : s.breq = some (requestOf i))
    (hl : s.labelTransaction = some i) : busFits s = true := by
  simp [busFits, hb, hl, encode_bus i (labelTransaction_bus hl)]

/-- A transaction awaited (R266). -/
theorem inv_waits {s : State} {i : Instr} (hs : s.Inv) (hl : s.labelTransaction = some i) :
    State.Inv { s.beginStep with breq := some (requestOf i) } := by
  obtain ⟨hsession, hrun, hfault, hhandle, hreading, -, hlatch, hop⟩ := hs
  exact ⟨hsession, hrun, hfault, hhandle, hreading, busFits_of_request rfl hl, hlatch, hop⟩

/-- A transaction completed: OPEN ends at IDLE with the handle, every other label goes on as it says. -/
theorem inv_completes {s u : State} {i : Instr} {d : Word} (hl : s.labelTransaction = some i) (hp : u.pc = s.pc)
    (hb : u.breq = none) (hu : u.Inv) : (u.latched i d).labelDone.Inv := by
  by_cases hopen : s.pc = .openBus
  · obtain ⟨ht, hr, hf, -, hrv, -⟩ := (inv_openBus_iff (hp.trans hopen)).mp hu
    have hd : (u.latched i d).labelDone = (u.latched i d).goto .idle := by
      simp only [State.labelDone, latched_pc, hp.trans hopen]
    rw [hd, inv_idle_iff (State.goto_pc _ _)]
    simp [faultFits, readingFits, latched_handleValid hl, hopen, ht, hr, hf, hrv, hb]
  · exact inv_labelDone (inv_latched hl hopen hp hb hu d) (by simp [hb]) (by simpa [hp] using hopen)

/-- A response given at once, at IDLE, with the command latched. -/
theorem inv_respond_at_idle {s : State} (hs : s.Inv) (hp : s.pc = .idle) (w : Half) (c : RspCode) (d : Half) :
    ((s.latchCommand w).respond c d).Inv :=
  (inv_idle_iff (s := (s.latchCommand w).respond c d) hp).mpr ((inv_idle_iff hp).mp hs)

/-- An accepted command keeps the invariant (R107). -/
theorem inv_accepts {i : Instr} {w : Half} {s : State} (hs : s.Inv) (hp : s.pc = .idle) (hi : encode i = .command w)
    (hl : commandLegal i s.topState = true) : (commandBody i (s.latchCommand w)).Inv := by
  obtain ⟨-, hr, hf, hh, hrd, hb⟩ := (inv_idle_iff hp).mp hs
  have polls : s.topState = .polling → s.Polls := by
    intro h
    exact ⟨h, by simpa [faultFits, h] using hf, by simpa [h] using hh⟩
  have handshake : ∀ run : Bool, s.topState = .uninitialized → opField w = (if run then 0x05#8 else 0x01#8) →
      ((s.latchCommand w).beginHandshake run).Inv := by
    intro run h hw
    refine (inv_handshake_iff rfl).mpr ⟨rfl, ?_, ?_, ?_, busFits_of_none hb, rfl, hw⟩
    · simpa [faultFits, h] using hf
    · simpa [h] using hh
    · simpa [readingFits, h] using hrd
  cases i with
  | configure =>
    cases hi
    exact handshake false (by simpa [commandLegal, legalConfigure] using hl) (by simp)
  | setDriveMode m =>
    cases hi
    exact (inv_mode_iff (.inl rfl)).mpr
      ⟨polls (by simpa [commandLegal, legalInPolling] using hl), hr, busFits_of_none hb, by simp [commandBody]⟩
  | getBaseline =>
    cases hi
    exact (inv_mode_iff (.inr (.inr rfl))).mpr
      ⟨polls (by simpa [commandLegal, legalInPolling] using hl), hr, busFits_of_none hb, by simp [commandBody]⟩
  | pollOnce =>
    cases hi
    exact (inv_iteration_iff (.inl rfl)).mpr
      ⟨polls (by simpa [commandLegal, legalInPolling] using hl), busFits_of_none hb, rfl, by simp [commandBody]⟩
  | run =>
    cases hi
    simp only [commandBody]
    split
    next hu => exact handshake true hu (by simp)
    next hu =>
      have hpoll : s.topState = .polling := by
        simpa [commandLegal, legalRun, show s.topState ≠ .uninitialized from hu] using hl
      exact (inv_run_iff (.inr (.inr rfl))).mpr ⟨polls hpoll, hb, rfl, by simp⟩
  | decodeError e => exact inv_respond_at_idle hs hp w _ _
  | openHandle | readByte | readBlock | writeByte | writeCommand => cases hi

/-- A checkpoint passed, or the end of a sleep (R180, R181). -/
theorem inv_goes {s : State} {l : Label} (hs : s.Inv) (hp : s.pc = .runChkPre ∧ l = .sleep ∨
    s.pc = .sleep ∧ l = .runChkHead ∨ s.pc = .runChkHead ∧ l = .pollSt) : (s.goto l).Inv := by
  obtain ⟨hpoll, hb, hr, ho⟩ := (inv_run_iff (by tauto)).mp hs
  rcases hp with ⟨-, rfl⟩ | ⟨-, rfl⟩ | ⟨-, rfl⟩
  · exact (inv_run_iff (.inr (.inl rfl))).mpr ⟨hpoll, hb, hr, ho⟩
  · exact (inv_run_iff (.inr (.inr rfl))).mpr ⟨hpoll, hb, hr, ho⟩
  · exact (inv_iteration_iff (.inl rfl)).mpr ⟨hpoll, busFits_of_none hb, rfl, by simpa [hr] using ho⟩

/-- STOPPED at IDLE, with nothing outstanding. -/
theorem inv_stopped {s : State} (hp : s.pc = .idle) (ht : s.topState = .stopped) (hr : s.inRun = false)
    (hf : s.faultCode = .none) (hh : s.handleValid = true) (hb : s.breq = none) : s.Inv := by
  rw [inv_idle_iff hp]
  simp [faultFits, readingFits, ht, hr, hf, hh, hb]

/-- A cancellation is pending where the latch is set in UNINITIALIZED or POLLING (R182). -/
theorem cancelPending_iff {s : State} :
    s.cancelPending = true ↔ s.cancelReq = true ∧ (s.topState = .uninitialized ∨ s.topState = .polling) := by
  simp [State.cancelPending]

theorem inv_endStep_iff {s : State} : s.endStep.Inv ↔ s.Inv := by rw [endStep_eq]; rfl

/-- Every move keeps the invariant. -/
theorem moves_keep_inv {s u : State} (hs : s.Inv) (h : s.Moves u) : u.Inv := by
  have hs' : s.beginStep.Inv := hs
  cases h with
  | waits hl hb => exact inv_waits hs hl
  | fails hl hb => exact inv_sessionFault rfl (by decide)
  | completes hl hb =>
    refine inv_completes hl rfl rfl ?_
    obtain ⟨hsession, hrun, hfault, hhandle, hreading, -, hlatch, hop⟩ := hs
    exact ⟨hsession, hrun, hfault, hhandle, hreading, rfl, hlatch, hop⟩
  | rests hp => exact hs
  | cancels hp hc =>
    obtain ⟨-, hr, hf, hh, -, hb⟩ := (inv_idle_iff hp).mp hs
    obtain ⟨-, ht | ht⟩ := cancelPending_iff.mp hc <;>
      exact inv_stopped hp rfl hr (by simpa [faultFits, ht] using hf) (by simpa [ht] using hh) hb
  | rejects hp hw => exact inv_respond_at_idle hs' hp _ _ _
  | accepts hp hw hi hl => exact inv_accepts hs' hp hi hl
  | stops hp hc =>
    obtain ⟨⟨-, hf, hh⟩, hb, -, -⟩ := (inv_run_iff (by tauto)).mp hs
    exact inv_stopped rfl rfl rfl hf hh hb
  | goes hp => exact inv_goes hs' hp

/-- The values after reset (R45). The inputs and the record are no part of what the invariant says. -/
theorem inv_reset : State.reset.Inv := by decide

/-- Settles O48: a step is a reset or one of the moves, and each keeps the invariant. -/
theorem stepKeepsSessionInvariant : Obligations.StepKeepsSessionInvariant := by
  intro s t hs h
  cases hr : s.pins.rstN with
  | false =>
    cases (tick_reset s hr).symm.trans h
    rw [nextPins_eq]
    exact inv_reset
  | true =>
    obtain ⟨-, -, -, -, -, hbus, -, -⟩ := id hs
    obtain ⟨u, hu, rfl⟩ := step_moves hr hbus h
    exact inv_endStep_iff.mpr (moves_keep_inv hs hu)

/-- Settles O47: `withInputs` changes the inputs only, which the invariant does not see. -/
theorem sessionInvariantAtReset : Obligations.SessionInvariantAtReset := by
  intro ps
  cases ps <;> exact inv_reset

end Sys2Proof.Machine

/-! PROOFS. What a step can change in the session state (10_state.md). -/

namespace Sys2Proof.Machine

/-! The drive-mode byte (41_mode_baseline.md R150). -/

theorem clampMode_le (m : Byte) : (clampMode m).toNat ≤ 4 := by
  unfold clampMode
  split
  next h => exact h
  next => decide

/-- The field 6:4 holds the clamped mode. -/
theorem driveModeByte_field (mm m : Byte) : (driveModeByte mm m).extractLsb' 4 3 = (clampMode m).extractLsb' 0 3 := by
  ext i hi
  interval_cases i <;> simp [driveModeByte, driveModeMask]

theorem driveModeByte_bit7 (mm m : Byte) : (driveModeByte mm m).getLsbD 7 = mm.getLsbD 7 := by
  have h3 : (clampMode m)[3] = false := by
    rw [BitVec.getElem_eq_testBit_toNat]
    exact Nat.testBit_lt_two_pow ((clampMode_le m).trans_lt (by decide))
  simp [driveModeByte, driveModeMask, h3]

theorem driveModeByte_low (mm m : Byte) : (driveModeByte mm m).extractLsb' 0 4 = mm.extractLsb' 0 4 := by
  ext i hi
  interval_cases i <;> simp [driveModeByte, driveModeMask]

theorem driveModeByte_field_le (mm m : Byte) : ((driveModeByte mm m).extractLsb' 4 3).toNat ≤ 4 := by
  rw [driveModeByte_field, BitVec.extractLsb'_toNat, Nat.shiftRight_zero]
  exact (Nat.mod_le _ _).trans (clampMode_le m)

/-- Every write a label issues is of the drive-mode byte, to MeasMode (R129, R151). -/
theorem labelTransaction_writeByte {s : State} {a v : Byte} (h : s.labelTransaction = some (.writeByte a v)) :
    a = Config.measMode ∧ ∃ m, v = driveModeByte s.mm m := by
  unfold State.labelTransaction at h
  split at h <;> cases h
  · exact ⟨rfl, _, rfl⟩
  · exact ⟨rfl, _, rfl⟩

/-- Settles O24: the two labels that write take MeasMode's byte from `driveModeByte`. -/
theorem onlyMeasModeIsWritten : Obligations.OnlyMeasModeIsWritten := by
  intro s a v h
  obtain ⟨ha, m, rfl⟩ := labelTransaction_writeByte h
  exact ⟨ha, driveModeByte_field_le s.mm m, driveModeByte_bit7 s.mm m, driveModeByte_low s.mm m⟩

/-- Settles O43: the values stand in `State.reset`. -/
theorem resetValues : Obligations.ResetValues :=
  ⟨rfl, rfl, rfl, rfl, rfl, rfl, rfl, rfl, rfl, rfl, rfl, rfl⟩

/-! What a label's continuation changes. -/

/-- `u` differs from `s` in the session state, the sequencer, the fault code, the output ports and the record at most. -/
def State.SameStore (s u : State) : Prop :=
  u = { s with
    topState := u.topState, pc := u.pc, inRun := u.inRun, faultCode := u.faultCode, rsp := u.rsp, rpt := u.rpt,
    events := u.events }

section
variable {s u : State} (h : s.SameStore u)
include h

theorem State.SameStore.curOp : u.curOp = s.curOp := by unfold State.SameStore at h; rw [h]
theorem State.SameStore.curArg : u.curArg = s.curArg := by unfold State.SameStore at h; rw [h]
theorem State.SameStore.handleValid : u.handleValid = s.handleValid := by unfold State.SameStore at h; rw [h]
theorem State.SameStore.readingCo2 : u.readingCo2 = s.readingCo2 := by unfold State.SameStore at h; rw [h]
theorem State.SameStore.readingTvoc : u.readingTvoc = s.readingTvoc := by unfold State.SameStore at h; rw [h]
theorem State.SameStore.readingValid : u.readingValid = s.readingValid := by unfold State.SameStore at h; rw [h]
theorem State.SameStore.st : u.st = s.st := by unfold State.SameStore at h; rw [h]

end

theorem sameStore_sessionFault (s : State) (f : SessionFault) : s.SameStore (s.sessionFault f) := by
  rcases sessionFault_cases s f with ⟨-, e⟩ | ⟨-, e⟩ <;> rw [e] <;> rfl

theorem sameStore_endIteration (s : State) (branch : Half) : s.SameStore (s.endIteration branch) := by
  unfold State.endIteration
  split <;> rfl

theorem sameStore_handshakeDone (s : State) : s.SameStore s.handshakeDone := by
  unfold State.handshakeDone
  simp only
  split <;> rfl

/-- No label's continuation but POLL_DATA's writes the reading store, and none writes a command register, the handle or a
latch. -/
theorem sameStore_labelDone {s : State} (hp : s.pc ≠ .pollData) : s.SameStore s.labelDone := by
  cases h : s.pc with
  | idle | openBus | cfgAppstart | cfgMmRd | cfgMmWr | sdmRd | sdmWr | blRd | runChkPre | sleep | runChkHead =>
    simp only [State.labelDone, h]
    rfl
  | cfgHwid =>
    simp only [State.labelDone, h, State.cfgHwidDone]
    split
    next => exact sameStore_sessionFault s _
    next => rfl
  | cfgStValid =>
    simp only [State.labelDone, h, State.cfgStValidDone]
    split
    next => rfl
    next => exact sameStore_sessionFault s _
  | cfgStBoot | cfgStApp =>
    simp only [State.labelDone, h, State.cfgStBootDone, State.cfgStAppDone]
    split <;> rfl
  | cfgErrBoot | cfgErrApp | cfgErrMode =>
    simp only [State.labelDone, h]
    exact sameStore_sessionFault (s.emit _) _
  | cfgStMode =>
    simp only [State.labelDone, h, State.cfgStModeDone]
    split
    next => rfl
    next => exact sameStore_handshakeDone s
  | pollSt =>
    simp only [State.labelDone, h, State.pollStDone]
    split
    next => rfl
    next =>
      split
      next => rfl
      next => exact sameStore_endIteration s _
  | pollErr =>
    simp only [State.labelDone, h]
    exact sameStore_endIteration (s.emit _) _
  | pollData => exact absurd h hp

/-- POLL_DATA's continuation stores the reading of the block latched (R174). -/
theorem sameStore_labelDone_pollData {s : State} (hp : s.pc = .pollData) :
    (s.storeReading (joinBytes s.blk.b0 s.blk.b1) (joinBytes s.blk.b2 s.blk.b3)).SameStore s.labelDone := by
  simp only [State.labelDone, hp]
  exact sameStore_endIteration (State.emit _ _) _

@[simp] theorem labelDone_curOp (s : State) : s.labelDone.curOp = s.curOp := by
  by_cases hp : s.pc = .pollData
  · exact (sameStore_labelDone_pollData hp).curOp
  · exact (sameStore_labelDone hp).curOp

@[simp] theorem labelDone_curArg (s : State) : s.labelDone.curArg = s.curArg := by
  by_cases hp : s.pc = .pollData
  · exact (sameStore_labelDone_pollData hp).curArg
  · exact (sameStore_labelDone hp).curArg

@[simp] theorem labelDone_handleValid (s : State) : s.labelDone.handleValid = s.handleValid := by
  by_cases hp : s.pc = .pollData
  · exact (sameStore_labelDone_pollData hp).handleValid
  · exact (sameStore_labelDone hp).handleValid

@[simp] theorem labelDone_st (s : State) : s.labelDone.st = s.st := by
  by_cases hp : s.pc = .pollData
  · exact (sameStore_labelDone_pollData hp).st
  · exact (sameStore_labelDone hp).st

/-- Once there is a reading, there is one (R30). -/
theorem labelDone_readingValid {s : State} (hv : s.readingValid = true) : s.labelDone.readingValid = true := by
  by_cases hp : s.pc = .pollData
  · exact (sameStore_labelDone_pollData hp).readingValid
  · exact (sameStore_labelDone hp).readingValid.trans hv

/-- The session state and the fault code after a label's continuation: both written by a fault entry, the session state
alone by the success of the handshake, and else both as they were (R21, R27). -/
theorem labelDone_session (s : State) :
    (s.labelDone.topState = .faulted ∧ s.labelDone.faultCode ≠ .none) ∨
    (s.labelDone.faultCode = s.faultCode ∧ s.pc = .cfgStMode ∧ statusError s.st = false ∧
      s.labelDone.topState = .polling) ∨
    (s.labelDone.faultCode = s.faultCode ∧ s.labelDone.topState = s.topState) := by
  have fault : ∀ (u : State) (f : SessionFault), f ≠ .none →
      (u.sessionFault f).topState = .faulted ∧ (u.sessionFault f).faultCode ≠ .none :=
    fun u f hf => ⟨sessionFault_topState u f, by rwa [sessionFault_faultCode]⟩
  have iteration : ∀ (u : State) (b : Half), (u.endIteration b).faultCode = u.faultCode ∧
      (u.endIteration b).topState = u.topState := by
    intro u b
    unfold State.endIteration
    split <;> exact ⟨rfl, rfl⟩
  cases h : s.pc with
  | idle | runChkPre | sleep | runChkHead => simp [State.labelDone, h]
  | openBus | cfgAppstart | cfgMmRd | cfgMmWr | sdmRd | sdmWr | blRd =>
    simp only [State.labelDone, h]
    exact .inr (.inr ⟨rfl, rfl⟩)
  | cfgHwid =>
    simp only [State.labelDone, h, State.cfgHwidDone]
    split
    next => exact .inl (fault s _ (by decide))
    next => exact .inr (.inr ⟨rfl, rfl⟩)
  | cfgStValid =>
    simp only [State.labelDone, h, State.cfgStValidDone]
    split
    next => exact .inr (.inr ⟨rfl, rfl⟩)
    next => exact .inl (fault s _ (by decide))
  | cfgStBoot | cfgStApp =>
    simp only [State.labelDone, h, State.cfgStBootDone, State.cfgStAppDone]
    split <;> exact .inr (.inr ⟨rfl, rfl⟩)
  | cfgErrBoot | cfgErrApp | cfgErrMode =>
    simp only [State.labelDone, h]
    exact .inl (fault (s.emit _) _ (by decide))
  | cfgStMode =>
    simp only [State.labelDone, h, State.cfgStModeDone]
    split
    next => exact .inr (.inr ⟨rfl, rfl⟩)
    next he =>
      refine .inr (.inl ⟨?_, trivial, by simpa using he, ?_⟩) <;>
      · simp only [State.handshakeDone]
        split <;> rfl
  | pollSt =>
    simp only [State.labelDone, h, State.pollStDone]
    split
    next => exact .inr (.inr ⟨rfl, rfl⟩)
    next =>
      split
      next => exact .inr (.inr ⟨rfl, rfl⟩)
      next => exact .inr (.inr (iteration s _))
  | pollData =>
    simp only [State.labelDone, h]
    exact .inr (.inr (iteration (State.emit _ (s.storeReading _ _)) _))
  | pollErr =>
    simp only [State.labelDone, h]
    exact .inr (.inr (iteration (s.emit _) _))

/-! The fields of the end of a step. -/

@[simp] theorem endStep_topState (s : State) : s.endStep.topState = s.topState := by rw [endStep_eq]
@[simp] theorem endStep_curOp (s : State) : s.endStep.curOp = s.curOp := by rw [endStep_eq]
@[simp] theorem endStep_curArg (s : State) : s.endStep.curArg = s.curArg := by rw [endStep_eq]
@[simp] theorem endStep_handleValid (s : State) : s.endStep.handleValid = s.handleValid := by rw [endStep_eq]
@[simp] theorem endStep_faultCode (s : State) : s.endStep.faultCode = s.faultCode := by rw [endStep_eq]
@[simp] theorem endStep_st (s : State) : s.endStep.st = s.st := by rw [endStep_eq]
@[simp] theorem endStep_readingCo2 (s : State) : s.endStep.readingCo2 = s.readingCo2 := by rw [endStep_eq]
@[simp] theorem endStep_readingTvoc (s : State) : s.endStep.readingTvoc = s.readingTvoc := by rw [endStep_eq]
@[simp] theorem endStep_readingValid (s : State) : s.endStep.readingValid = s.readingValid := by rw [endStep_eq]

/-! Transitions of the session state (10_state.md R21). -/

/-- No command is in progress in FAULTED and STOPPED, and no transaction outstanding (R21, R224). -/
theorem busy_topState {s : State} (hs : s.Inv) (hp : s.pc ≠ .idle) : s.topState ≠ .faulted ∧ s.topState ≠ .stopped := by
  obtain ⟨hsession, -⟩ := hs
  unfold sessionFits at hsession
  simp only [hp, if_false] at hsession
  split at hsession
  next => simp_all
  next => split at hsession <;> simp_all

/-- A label that issues a transaction is not IDLE. -/
theorem pc_ne_idle_of_labelTransaction {s : State} {i : Instr} (hl : s.labelTransaction = some i) : s.pc ≠ .idle := by
  intro hp
  simp [State.labelTransaction, hp] at hl

/-- `fault_code` is NONE outside FAULTED (R27). -/
theorem faultCode_of_not_faulted {s : State} (hs : s.Inv) (ht : s.topState ≠ .faulted) : s.faultCode = .none := by
  obtain ⟨-, -, hf, -⟩ := hs
  simpa [faultFits, ht] using hf

/-- What an accepted command does to the session state: only CONFIGURE and RUN write it, and only in UNINITIALIZED
(R121, R178). -/
theorem commandBody_topState (i : Instr) (s : State) :
    (commandBody i s).topState = s.topState ∨
    ((i = .configure ∨ i = .run ∧ s.topState = .uninitialized) ∧ (commandBody i s).topState = .configuring) := by
  cases i with
  | configure => exact .inr ⟨.inl rfl, rfl⟩
  | run =>
    simp only [commandBody]
    split
    next hu => exact .inr ⟨.inr ⟨trivial, hu⟩, rfl⟩
    next => exact .inl rfl
  | setDriveMode | getBaseline | pollOnce | decodeError | openHandle | readByte | readBlock | writeByte | writeCommand =>
    exact .inl rfl

@[simp] theorem commandBody_faultCode (i : Instr) (s : State) : (commandBody i s).faultCode = s.faultCode := by
  cases i with
  | run => simp only [commandBody]; split <;> rfl
  | configure | setDriveMode | getBaseline | pollOnce | decodeError | openHandle | readByte | readBlock | writeByte
  | writeCommand => rfl

/-- An accepted command writes the session state, the sequencer and the response port at most. -/
theorem sameStore_commandBody (i : Instr) (s : State) : s.SameStore (commandBody i s) := by
  cases i with
  | run => simp only [commandBody]; split <;> rfl
  | configure | setDriveMode | getBaseline | pollOnce | decodeError | openHandle | readByte | readBlock | writeByte
  | writeCommand => rfl

/-- A word that can start the handshake in UNINITIALIZED is that of CONFIGURE or RUN (R101, R105). -/
theorem handshake_words {i : Instr} {w : Half} (hi : encode i = .command w) (h : i = .configure ∨ i = .run) :
    w = 0x0100#16 ∨ w = 0x0500#16 := by
  rcases h with rfl | rfl <;> cases hi
  · exact .inl rfl
  · exact .inr rfl

/-- Settles O50: move by move, who writes `top_state`. -/
theorem onlyListedSessionTransitions : Obligations.OnlyListedSessionTransitions := by
  intro s t hs hr h hne
  obtain ⟨-, -, -, -, -, hbus, -, -⟩ := id hs
  obtain ⟨u, hu, rfl⟩ := step_moves hr hbus h
  simp only [endStep_topState, endStep_st, endStep_faultCode] at hne ⊢
  cases hu with
  | waits hl hb => exact absurd rfl hne
  | fails hl hb =>
    obtain ⟨hf, hst⟩ := busy_topState hs (pc_ne_idle_of_labelTransaction hl)
    exact .inr (.inr (.inl ⟨hf, hst, by simp, by simp⟩))
  | @completes i d hl hb =>
    obtain ⟨hf, hst⟩ := busy_topState hs (pc_ne_idle_of_labelTransaction hl)
    rcases labelDone_session ((s.beginStep.completeBus (requestOf i) (resultOf i d)).latched i d) with
      ⟨ht, hc⟩ | ⟨-, hp, he, ht⟩ | ⟨-, ht⟩
    · exact .inr (.inr (.inl ⟨hf, hst, ht, hc⟩))
    · have hp' : s.pc = .cfgStMode := by simpa using hp
      obtain ⟨hcfg, -⟩ := (inv_handshake_iff (by rw [hp']; rfl)).mp hs
      exact .inr (.inl ⟨hcfg, ht, hp', by rwa [labelDone_st]⟩)
    · exact absurd (by simpa using ht) hne
  | rests hp => exact absurd rfl hne
  | cancels hp hc =>
    obtain ⟨hreq, ht⟩ := cancelPending_iff.mp hc
    exact .inr (.inr (.inr ⟨ht, rfl, hreq⟩))
  | rejects hp hw => exact absurd rfl hne
  | @accepts i w hp hw hi hl =>
    rcases commandBody_topState i (s.beginStep.latchCommand w) with ht | ⟨hi', ht⟩
    · exact absurd ht hne
    · have hu : s.topState = .uninitialized := by
        rcases hi' with rfl | ⟨-, hu⟩
        · simpa [commandLegal, legalConfigure] using hl
        · exact hu
      rw [hw]
      refine .inl ⟨hu, ht, hp, ?_⟩
      simpa using handshake_words hi (hi'.imp_right And.left)
  | stops hp hc =>
    obtain ⟨⟨ht, -, -⟩, -⟩ := (inv_run_iff (by tauto)).mp hs
    exact .inr (.inr (.inr ⟨.inr ht, rfl, hc⟩))
  | goes hp => exact absurd rfl hne

/-- Settles O56: only a fault entry writes `fault_code`, and only a busy session, which is not FAULTED, takes one. -/
theorem faultCodeIsWrittenOnce : Obligations.FaultCodeIsWrittenOnce := by
  intro s t hs hr h hne
  obtain ⟨-, -, -, -, -, hbus, -, -⟩ := id hs
  obtain ⟨u, hu, rfl⟩ := step_moves hr hbus h
  simp only [endStep_topState, endStep_faultCode] at hne ⊢
  cases hu with
  | waits | rests | cancels | rejects | stops | goes => exact absurd rfl hne
  | accepts => exact absurd (commandBody_faultCode _ _) hne
  | fails hl hb =>
    obtain ⟨hf, -⟩ := busy_topState hs (pc_ne_idle_of_labelTransaction hl)
    exact ⟨faultCode_of_not_faulted hs hf, by simp, hf, by simp⟩
  | @completes i d hl hb =>
    obtain ⟨hf, -⟩ := busy_topState hs (pc_ne_idle_of_labelTransaction hl)
    rcases labelDone_session ((s.beginStep.completeBus (requestOf i) (resultOf i d)).latched i d) with
      ⟨ht, hc⟩ | ⟨he, -⟩ | ⟨he, -⟩
    · exact ⟨faultCode_of_not_faulted hs hf, hc, hf, ht⟩
    · exact absurd (by simpa using he) hne
    · exact absurd (by simpa using he) hne

/-! The handle (10_state.md R26). -/

/-- The handle after a move: held before, or acquired by OPEN's success. -/
theorem moves_handleValid {s u : State} (h : s.Moves u) :
    u.handleValid = true ↔ s.handleValid = true ∨ (s.pc = .openBus ∧ ∃ d, s.pins.bus = some ⟨false, d⟩) := by
  cases h with
  | completes hl hb => simp [latched_handleValid hl, hb]
  | waits hl hb => simp [hb]
  | fails hl hb => simp [hb]
  | accepts hp => simp [(sameStore_commandBody _ _).handleValid, hp]
  | cancels hp | rejects hp => simp [hp]
  | rests hp => rcases hp with hp | hp <;> simp [hp]
  | stops hp => rcases hp with hp | hp <;> simp [hp, State.stopRun]
  | goes hp => rcases hp with ⟨hp, -⟩ | ⟨hp, -⟩ | ⟨hp, -⟩ <;> simp [hp]

/-- Settles O57, from what a move does to the handle. -/
theorem handleIsNeverCleared : Obligations.HandleIsNeverCleared := by
  rintro s t ⟨-, -, -, -, -, hbus, -, -⟩ hr h
  obtain ⟨u, hu, rfl⟩ := step_moves hr hbus h
  rw [endStep_handleValid, moves_handleValid hu]
  exact ⟨.inl, fun hf => by simp [hf]⟩

/-! The reading store (10_state.md R29 to R31). -/

@[simp] theorem commandBody_readingCo2 (i : Instr) (s : State) : (commandBody i s).readingCo2 = s.readingCo2 :=
  (sameStore_commandBody i s).readingCo2

@[simp] theorem commandBody_readingTvoc (i : Instr) (s : State) : (commandBody i s).readingTvoc = s.readingTvoc :=
  (sameStore_commandBody i s).readingTvoc

@[simp] theorem commandBody_readingValid (i : Instr) (s : State) : (commandBody i s).readingValid = s.readingValid :=
  (sameStore_commandBody i s).readingValid

/-- Without an answer to POLL_DATA's block read a move leaves the reading store. -/
theorem moves_keep_readings {s u : State} (h : s.Moves u)
    (hn : s.pc = .pollData → ∀ d, s.pins.bus ≠ some ⟨false, d⟩) :
    u.readingCo2 = s.readingCo2 ∧ u.readingTvoc = s.readingTvoc ∧ u.readingValid = s.readingValid := by
  cases h with
  | @completes i d hl hb =>
    have hp : ((s.beginStep.completeBus (requestOf i) (resultOf i d)).latched i d).pc ≠ .pollData := by
      simpa using fun hp => hn hp d hb
    have hstore := sameStore_labelDone hp
    exact ⟨by simp [hstore.readingCo2], by simp [hstore.readingTvoc], by simp [hstore.readingValid]⟩
  | waits | fails | rests | cancels | rejects | accepts | stops | goes => simp [State.stopRun]

/-- The block latch after four bytes, as POLL_DATA joins it (R69, R174). -/
theorem join_block (blk : Block) (d : Word) :
    joinBytes (blk.take d Config.algBlockLen).b0 (blk.take d Config.algBlockLen).b1 = d.extractLsb' 16 16 ∧
    joinBytes (blk.take d Config.algBlockLen).b2 (blk.take d Config.algBlockLen).b3 = d.extractLsb' 0 16 := by
  simp only [Block.take, Config.algBlockLen, joinBytes, answerByte]
  constructor
  · exact BitVec.extractLsb'_append_extractLsb'_eq_extractLsb' (by decide)
  · exact BitVec.extractLsb'_append_extractLsb'_eq_extractLsb' (by decide)

/-- POLL_DATA's answered block is stored. -/
theorem moves_store_reading {s u : State} {d : Word} (h : s.Moves u) (hp : s.pc = .pollData)
    (hb : s.pins.bus = some ⟨false, d⟩) :
    u.readingCo2 = d.extractLsb' 16 16 ∧ u.readingTvoc = d.extractLsb' 0 16 ∧ u.readingValid = true := by
  cases h with
  | @completes i d' hl hb' =>
    cases hb.symm.trans hb'
    have hi : i = .readBlock Config.algResultData Config.algBlockLen := by
      simpa [State.labelTransaction, hp, eq_comm] using hl
    have hp' : ((s.beginStep.completeBus (requestOf i) (resultOf i d)).latched i d).pc = .pollData := by simpa using hp
    have hstore := sameStore_labelDone_pollData hp'
    subst hi
    obtain ⟨hco2, htvoc⟩ := join_block s.blk d
    exact ⟨hstore.readingCo2.trans hco2, hstore.readingTvoc.trans htvoc, hstore.readingValid⟩
  | waits hl hb' => cases hb.symm.trans hb'
  | fails hl hb' => cases hb.symm.trans hb'
  | rests hp' => simp [hp] at hp'
  | cancels hp' | rejects hp' | accepts hp' => cases hp.symm.trans hp'
  | stops hp' => simp [hp] at hp'
  | goes hp' => simp [hp] at hp'

/-- Settles O54: POLL_DATA's answer is the one move that stores. -/
theorem onlyTheDataBranchWritesReadings : Obligations.OnlyTheDataBranchWritesReadings := by
  rintro s t ⟨-, -, -, -, -, hbus, -, -⟩ hr h
  obtain ⟨u, hu, rfl⟩ := step_moves hr hbus h
  simp only [endStep_readingCo2, endStep_readingTvoc, endStep_readingValid]
  split
  next d hp hb => exact moves_store_reading hu hp hb
  next hn => exact moves_keep_readings hu fun hp d hb => hn d hp hb

/-! A step from any state, whatever is outstanding. -/

/-- Everything a bus transaction's meaning can answer: the wait, the fault, or the latch and, where the label issued it,
the label's continuation. -/
theorem exec_bus_cases {i : Instr} {s t : State} (hi : isHostCommand i = false) (h : exec i s = .next t) :
    t = { s with breq := some (requestOf i) } ∨
    t = (s.completeBus (requestOf i) .busError).sessionFault .busError ∨
    ∃ d, t = resumeAfter s i ((s.completeBus (requestOf i) (resultOf i d)).latched i d) := by
  rw [exec_bus i s hi] at h
  rcases busTransaction_cases (requestOf i) (resultOf i) (fun d t => resumeAfter s i (t.latched i d)) s with
    ⟨-, e⟩ | ⟨d, -, e⟩ | ⟨d, -, e⟩ <;> rw [h] at e
  · exact .inl (Host.Outcome.next.inj e)
  · exact .inr (.inl (Host.Outcome.next.inj e))
  · exact .inr (.inr ⟨d, Host.Outcome.next.inj e⟩)

/-- The word of a host command. -/
theorem encode_host {i : Instr} (h : isHostCommand i = true) : ∃ w, encode i = .command w := by
  cases i with
  | configure | setDriveMode | getBaseline | pollOnce | run | decodeError => exact ⟨_, rfl⟩
  | openHandle | readByte | readBlock | writeByte | writeCommand => cases h

theorem resumeAfter_readingValid {s t : State} {i : Instr} (hv : t.readingValid = true) :
    (resumeAfter s i t).readingValid = true := by
  unfold resumeAfter
  split
  · exact labelDone_readingValid hv
  · exact hv

/-- An acceptance leaves `reading_valid` as the command's own effect does. -/
theorem acceptCommand_readingValid {w : Half} {legal : TopState → Bool} {body : State → State} {s t : State}
    (hbody : ∀ u, (body u).readingValid = u.readingValid) (h : acceptCommand w legal body s = .next t) :
    t.readingValid = s.readingValid := by
  rcases acceptCommand_cases w legal body s with ⟨-, e⟩ | ⟨-, -, e⟩ | ⟨-, -, -, e⟩ | ⟨-, -, -, e⟩ <;>
    rw [Host.Outcome.next.inj (h.symm.trans e)]
  · simp
  · simp [hbody]
  · simp

theorem internalStep_readingValid (s : State) : s.internalStep.readingValid = s.readingValid := by
  cases h : s.pc <;> simp only [State.internalStep, h, State.checkpoint, State.sleepTick] <;> split <;> rfl

/-- Whatever a step runs, a reading that is valid stays so. -/
theorem runFetched_readingValid {f : Fetched} {s t : State} (h : runFetched f s = .next t)
    (hv : s.readingValid = true) : t.readingValid = true := by
  cases f with
  | instr i =>
    cases hi : isHostCommand i with
    | true =>
      obtain ⟨w, hw⟩ := encode_host hi
      have h' : exec i s = .next t := h
      rw [exec_command hw] at h'
      exact (acceptCommand_readingValid (commandBody_readingValid i) h').trans hv
    | false =>
      rcases exec_bus_cases hi h with rfl | rfl | ⟨d, rfl⟩
      · exact hv
      · simpa using hv
      · exact resumeAfter_readingValid (by simpa using hv)
  | reservedCommand w =>
    have h' : acceptCommand w (fun _ => false) (fun u => u) s = .next t := h
    exact (acceptCommand_readingValid (fun _ => rfl) h').trans hv
  | reservedBus w => cases h
  | internal =>
    cases h
    exact (internalStep_readingValid s).trans hv

/-- Settles O59: the observation is a test of `reading_valid`, which no step out of reset clears. -/
theorem invalidReadingFaultsTheObservation : Obligations.InvalidReadingFaultsTheObservation := by
  refine ⟨fun s hv => ?_, fun s hv => ?_, fun s t hr hv h => ?_⟩
  · simp [State.observeCo2, State.observeTvoc, hv]
  · simp [State.observeCo2, State.observeTvoc, hv]
  · rw [step_run s hr] at h
    obtain ⟨u, hu, rfl⟩ := (mapNext_next _ _ _).mp h
    rw [endStep_readingValid]
    exact runFetched_readingValid hu hv

/-! A step sees the pins only where a rule says so: the answer, the timer, and the command port at IDLE (10_state.md R23,
30_encoding.md R115). -/

/-- The state with other input pins. -/
def State.withPins (p : Inputs) (s : State) : State := { s with pins := p }

section
variable (p : Inputs) (s : State)

@[simp] theorem withPins_pins : (s.withPins p).pins = p := rfl
@[simp] theorem withPins_topState : (s.withPins p).topState = s.topState := rfl
@[simp] theorem withPins_pc : (s.withPins p).pc = s.pc := rfl
@[simp] theorem withPins_inRun : (s.withPins p).inRun = s.inRun := rfl
@[simp] theorem withPins_id : (s.withPins p).id = s.id := rfl
@[simp] theorem withPins_st : (s.withPins p).st = s.st := rfl
@[simp] theorem withPins_cancelPending : (s.withPins p).cancelPending = s.cancelPending := rfl
@[simp] theorem withPins_commandInProgress : (s.withPins p).commandInProgress = s.commandInProgress := rfl
@[simp] theorem goto_withPins (l : Label) : (s.withPins p).goto l = (s.goto l).withPins p := rfl
@[simp] theorem idleCancel_withPins : (s.withPins p).idleCancel = s.idleCancel.withPins p := rfl
@[simp] theorem latchCommand_withPins (w : Half) : (s.withPins p).latchCommand w = (s.latchCommand w).withPins p := rfl
@[simp] theorem respond_withPins (c : RspCode) (d : Half) :
    (s.withPins p).respond c d = (s.respond c d).withPins p := rfl
@[simp] theorem completeBus_withPins (w : Word) (r : BusResult) :
    (s.withPins p).completeBus w r = (s.completeBus w r).withPins p := rfl

theorem sessionFault_withPins (f : SessionFault) : (s.withPins p).sessionFault f = (s.sessionFault f).withPins p := by
  cases h : s.commandInProgress <;>
    simp only [State.sessionFault, withPins_commandInProgress, h, Bool.false_eq_true, if_true, if_false] <;> rfl

theorem endIteration_withPins (branch : Half) :
    (s.withPins p).endIteration branch = (s.endIteration branch).withPins p := by
  cases h : s.inRun <;>
    simp only [State.endIteration, withPins_inRun, h, Bool.false_eq_true, if_true, if_false] <;> rfl

theorem handshakeDone_withPins : (s.withPins p).handshakeDone = s.handshakeDone.withPins p := by
  cases h : s.inRun <;>
    simp only [State.handshakeDone, withPins_inRun, h, Bool.false_eq_true, if_true, if_false] <;> rfl

/-- No label's continuation sees the pins. -/
theorem labelDone_withPins : (s.withPins p).labelDone = s.labelDone.withPins p := by
  cases h : s.pc with
  | idle | openBus | cfgAppstart | cfgMmRd | cfgMmWr | sdmRd | sdmWr | blRd | runChkPre | sleep | runChkHead =>
    simp only [State.labelDone, withPins_pc, h] <;> rfl
  | cfgStBoot | cfgStApp =>
    simp only [State.labelDone, withPins_pc, h, State.cfgStBootDone, State.cfgStAppDone, withPins_st, goto_withPins,
      apply_ite (State.withPins p)]
    rfl
  | cfgHwid | cfgStValid | cfgStMode | pollSt =>
    simp only [State.labelDone, withPins_pc, h, State.cfgHwidDone, State.cfgStValidDone, State.cfgStModeDone,
      State.pollStDone, withPins_id, withPins_st, goto_withPins, sessionFault_withPins, handshakeDone_withPins,
      endIteration_withPins, apply_ite (State.withPins p)]
  | cfgErrBoot | cfgErrApp | cfgErrMode =>
    simp only [State.labelDone, withPins_pc, h]
    exact sessionFault_withPins p (s.emit _) _
  | pollData =>
    simp only [State.labelDone, withPins_pc, h]
    exact endIteration_withPins p ((s.storeReading _ _).emit _) _
  | pollErr =>
    simp only [State.labelDone, withPins_pc, h]
    exact endIteration_withPins p (s.emit _) _

theorem latched_withPins (i : Instr) (d : Word) : (s.withPins p).latched i d = (s.latched i d).withPins p := by
  cases i with
  | readByte a => simp only [State.latched, State.latchByte, apply_ite (State.withPins p)]; rfl
  | openHandle | readBlock | writeByte | writeCommand | configure | setDriveMode | getBaseline | pollOnce | run
  | decodeError => rfl

theorem commandBody_withPins (i : Instr) : commandBody i (s.withPins p) = (commandBody i s).withPins p := by
  cases i with
  | run => simp only [commandBody, withPins_topState, apply_ite (State.withPins p)]; rfl
  | configure | setDriveMode | getBaseline | pollOnce | decodeError | openHandle | readByte | readBlock | writeByte
  | writeCommand => rfl

theorem internalStep_withPins (ht : p.timer = s.pins.timer) :
    (s.withPins p).internalStep = s.internalStep.withPins p := by
  cases h : s.pc <;>
    simp only [State.internalStep, withPins_pc, h, State.checkpoint, State.sleepTick, withPins_pins, ht,
      withPins_cancelPending, apply_ite (State.withPins p)] <;> rfl

theorem acceptCommand_withPins (w : Half) (legal : TopState → Bool) {body : State → State}
    (hbody : ∀ u : State, body (u.withPins p) = (body u).withPins p) :
    acceptCommand w legal body (s.withPins p) = mapNext (State.withPins p) (acceptCommand w legal body s) := by
  rcases acceptCommand_cases w legal body s with ⟨hp, e⟩ | ⟨hp, hc, e⟩ | ⟨hp, hc, hl, e⟩ | ⟨hp, hc, hl, e⟩ <;> rw [e]
  · simp [acceptCommand, hp, mapNext]
  · simp [acceptCommand, hp, hc, mapNext]
  · simp [acceptCommand, hp, hc, hl, hbody, mapNext]
  · simp [acceptCommand, hp, hc, hl, mapNext]

/-- A meaning sees no pin but the answer. -/
theorem exec_withPins (i : Instr) (hb : p.bus = s.pins.bus) :
    exec i (s.withPins p) = mapNext (State.withPins p) (exec i s) := by
  cases hi : isHostCommand i with
  | true =>
    obtain ⟨w, hw⟩ := encode_host hi
    rw [exec_command hw, exec_command hw]
    exact acceptCommand_withPins p s w _ (fun u => commandBody_withPins p u i)
  | false =>
    rw [exec_bus i _ hi, exec_bus i _ hi]
    have hissues : (s.withPins p).issues i = s.issues i := by cases i <;> rfl
    rcases h : s.pins.bus with _ | ⟨_ | _, d⟩ <;>
      simp only [busTransaction, withPins_pins, hb, h, if_true, Bool.false_eq_true, if_false, mapNext,
        completeBus_withPins, latched_withPins, sessionFault_withPins]
    · rfl
    · rw [resumeAfter, resumeAfter, hissues, labelDone_withPins, apply_ite (State.withPins p)]

/-- A step's work sees no pin but the answer and the timer. -/
theorem runFetched_withPins (f : Fetched) (hb : p.bus = s.pins.bus) (ht : p.timer = s.pins.timer) :
    runFetched f (s.withPins p) = mapNext (State.withPins p) (runFetched f s) := by
  cases f with
  | instr i => exact exec_withPins p s i hb
  | reservedCommand w => exact acceptCommand_withPins p s w (fun _ => false) (body := fun u => u) (fun _ => rfl)
  | reservedBus w => rfl
  | internal => exact congrArg Host.Outcome.next (internalStep_withPins p s ht)

end

/-- The end of a step sees no pin of its tick but `cancel`. -/
theorem endStep_withPins {p q : Inputs} (hc : p.cancel = q.cancel) (s : State) :
    (s.withPins p).endStep = (s.withPins q).endStep := by
  rw [endStep_eq, endStep_eq]
  simp only [withPins_pins, hc]
  rfl

theorem mapNext_mapNext (f g : State → State) (r : Result) : mapNext f (mapNext g r) = mapNext (fun s => f (g s)) r := by
  cases r <;> rfl

/-- A step at a busy label does not see the command port. -/
theorem fetch_busy_withCmd {s : State} (hp : s.pc ≠ .idle) (c : Option Half) :
    (s.withPins { s.pins with cmd := c }).fetch = s.fetch := by
  have hl : (s.withPins { s.pins with cmd := c }).labelTransaction = s.labelTransaction := rfl
  have hb : (s.withPins { s.pins with cmd := c }).breq = s.breq := rfl
  simp [State.fetch, hl, hb, hp]

/-- What a step does with what it fetched depends on the answer, the timer and `cancel` alone among the pins. -/
theorem runFetched_endStep_withPins {p : Inputs} {s : State} (f : Fetched) (hb : p.bus = s.pins.bus)
    (ht : p.timer = s.pins.timer) (hc : p.cancel = s.pins.cancel) :
    mapNext State.endStep (runFetched f (s.withPins p)) = mapNext State.endStep (runFetched f s) := by
  have hs : runFetched f s = mapNext (State.withPins s.pins) (runFetched f s) := runFetched_withPins s.pins s f rfl rfl
  rw [runFetched_withPins p s f hb ht]
  conv_rhs => rw [hs]
  rw [mapNext_mapNext, mapNext_mapNext, funext (endStep_withPins hc)]

/-- A step in reset sees no other pin (R250). -/
theorem step_reset_withPins {p : Inputs} (s : State) (hr : p.rstN = false) :
    step (s.withPins p) = .next s.takeReset.nextPins := by
  have hstep : step (s.withPins p) = .next (s.withPins p).takeReset.nextPins := tick_reset _ hr
  rw [hstep, nextPins_eq, nextPins_eq]
  rfl

/-- Pins that differ in the command port only, where the step does not fetch from it, give the same step. -/
theorem step_withPins {p : Inputs} {s : State} (hf : (s.withPins p).fetch = s.fetch) (hr : p.rstN = s.pins.rstN)
    (hb : p.bus = s.pins.bus) (ht : p.timer = s.pins.timer) (hc : p.cancel = s.pins.cancel) :
    step (s.withPins p) = step s := by
  cases h : s.pins.rstN with
  | false =>
    rw [step_reset_withPins s (hr.trans h)]
    exact (tick_reset s h).symm
  | true =>
    rw [step_run s h, step_run (s.withPins p) (hr.trans h), hf]
    exact runFetched_endStep_withPins (s := s.beginStep) s.fetch hb ht hc

/-! The command registers (10_state.md R25). -/

/-- Without a word on the command port a step runs a bus transaction or none. -/
theorem fetch_without_command {s : State} (hc : s.pins.cmd = none) :
    (∃ i, s.fetch = .instr i ∧ isHostCommand i = false) ∨ (∃ w, s.fetch = .reservedBus w) ∨ s.fetch = .internal := by
  cases hb : s.breq with
  | some w =>
    cases hd : decodeBus w with
    | ok i => exact .inl ⟨i, by simp [State.fetch, hb, fetchBus, hd], decodeBus_bus hd⟩
    | error e => exact .inr (.inl ⟨w, by simp [State.fetch, hb, fetchBus, hd]⟩)
  | none =>
    cases hl : s.labelTransaction with
    | some i => exact .inl ⟨i, fetch_label hb hl, labelTransaction_bus hl⟩
    | none => exact .inr (.inr (by simp [State.fetch, hb, hl, hc]))

/-- A bus transaction leaves the command registers. -/
theorem exec_bus_command_registers {i : Instr} {s t : State} (hi : isHostCommand i = false) (h : exec i s = .next t) :
    t.curOp = s.curOp ∧ t.curArg = s.curArg := by
  rcases exec_bus_cases hi h with rfl | rfl | ⟨d, rfl⟩
  · exact ⟨rfl, rfl⟩
  · simp
  · unfold resumeAfter
    split <;> simp

theorem internalStep_command_registers (s : State) :
    s.internalStep.curOp = s.curOp ∧ s.internalStep.curArg = s.curArg := by
  cases h : s.pc <;> simp only [State.internalStep, h, State.checkpoint, State.sleepTick, and_self] <;> split <;>
    exact ⟨rfl, rfl⟩

/-- Without a word on the command port a step leaves the command registers. -/
theorem step_without_command {s t : State} (hr : s.pins.rstN = true) (hc : s.pins.cmd = none) (h : step s = .next t) :
    t.curOp = s.curOp ∧ t.curArg = s.curArg := by
  rw [step_run s hr] at h
  obtain ⟨u, hu, rfl⟩ := (mapNext_next _ _ _).mp h
  rw [endStep_curOp, endStep_curArg]
  rcases fetch_without_command hc with ⟨i, hf, hi⟩ | ⟨w, hf⟩ | hf <;> rw [hf] at hu
  · exact exec_bus_command_registers (s := s.beginStep) hi hu
  · cases hu
  · cases hu
    exact internalStep_command_registers s.beginStep

theorem exec_host_busy {i : Instr} {s : State} (hi : isHostCommand i = true) (hp : s.pc ≠ .idle) :
    exec i s = .next s := by
  obtain ⟨w, legal, body, e⟩ := exec_host i s hi
  rw [e, acceptCommand, if_pos hp]

/-- Settles O10: `cmd_ready` is the test of `pc`, a busy acceptance does nothing, and only IDLE fetches a command. -/
theorem busyControllerAcceptsNoCommand : Obligations.BusyControllerAcceptsNoCommand :=
  ⟨fun s => by simp [State.cmdReady], fun _ _ hi hp => exec_host_busy hi hp, 
    fun _ c hp => step_withPins (fetch_busy_withCmd hp c) rfl rfl rfl rfl, fun _ _ hr hc h => step_without_command hr hc h⟩

/-! The status bits that no rule tests (10_state.md R33). -/

/-- `b` differs from `a` in the status latch and in recorded transactions at most. -/
def State.SameButStatus (a b : State) : Prop :=
  (∃ v es, b = { a with st := v, events := es }) ∧ reportsOf a.events = reportsOf b.events ∧
    responsesOf a.events = responsesOf b.events

section
variable {a b : State} (h : a.SameButStatus b)
include h

theorem State.SameButStatus.goto (l : Label) : (a.goto l).SameButStatus (b.goto l) := by
  obtain ⟨⟨v, es, rfl⟩, hrep, hrsp⟩ := h
  exact ⟨⟨v, es, rfl⟩, hrep, hrsp⟩

theorem State.SameButStatus.respond (c : RspCode) (d : Half) : (a.respond c d).SameButStatus (b.respond c d) := by
  obtain ⟨⟨v, es, rfl⟩, hrep, hrsp⟩ := h
  exact ⟨⟨v, _, rfl⟩, by simpa using hrep, by simpa using hrsp⟩

theorem State.SameButStatus.endIteration (branch : Half) :
    (a.endIteration branch).SameButStatus (b.endIteration branch) := by
  have hrun : b.inRun = a.inRun := by obtain ⟨⟨v, es, rfl⟩, -⟩ := h; rfl
  unfold State.endIteration
  rw [hrun]
  split
  · exact h.goto _
  · exact (h.respond _ _).goto _

theorem State.SameButStatus.handshakeDone : a.handshakeDone.SameButStatus b.handshakeDone := by
  obtain ⟨⟨v, es, rfl⟩, hrep, hrsp⟩ := h
  simp only [State.handshakeDone]
  split
  · exact ⟨⟨v, es, rfl⟩, hrep, hrsp⟩
  · exact ⟨⟨v, _, rfl⟩, by simpa using hrep, by simpa using hrsp⟩

theorem State.SameButStatus.sessionFault (f : SessionFault) : (a.sessionFault f).SameButStatus (b.sessionFault f) := by
  obtain ⟨⟨v, es, rfl⟩, hrep, hrsp⟩ := h
  rcases sessionFault_cases a f with ⟨ha, ea⟩ | ⟨ha, ea⟩ <;>
    rcases sessionFault_cases { a with st := v, events := es } f with ⟨hb, eb⟩ | ⟨hb, eb⟩
  · rw [ea, eb]
    exact ⟨⟨v, _, rfl⟩, by simpa using hrep, by simpa using hrsp⟩
  · exact absurd (ha.symm.trans hb) (by decide)
  · exact absurd (ha.symm.trans hb) (by decide)
  · rw [ea, eb]
    exact ⟨⟨v, es, rfl⟩, hrep, hrsp⟩

/-- The decisions of a label that has read the status are those of bits 0, 3 and 4 (R124, R125, R128, R130, R173). -/
theorem State.SameButStatus.labelDone (he : statusError a.st = statusError b.st)
    (hd : statusDataReady a.st = statusDataReady b.st) (hv : statusAppValid a.st = statusAppValid b.st)
    (hp : a.pc = .cfgStBoot ∨ a.pc = .cfgStValid ∨ a.pc = .cfgStApp ∨ a.pc = .cfgStMode ∨ a.pc = .pollSt) :
    a.labelDone.SameButStatus b.labelDone := by
  have hpc : b.pc = a.pc := by obtain ⟨⟨v, es, rfl⟩, -⟩ := h; rfl
  rcases hp with hp | hp | hp | hp | hp <;> simp only [State.labelDone, hpc, hp]
  · rw [State.cfgStBootDone, State.cfgStBootDone, he]
    split <;> exact h.goto _
  · rw [State.cfgStValidDone, State.cfgStValidDone, hv]
    split
    · exact h.goto _
    · exact h.sessionFault _
  · rw [State.cfgStAppDone, State.cfgStAppDone, he]
    split <;> exact h.goto _
  · rw [State.cfgStModeDone, State.cfgStModeDone, he]
    split
    · exact h.goto _
    · exact h.handshakeDone
  · rw [State.pollStDone, State.pollStDone, hd, he]
    split
    · exact h.goto _
    · split
      · exact h.goto _
      · exact h.endIteration _

/-- Nothing the host sees, and no label, shows the status latch. -/
theorem State.SameButStatus.decisions (p q : Inputs) :
    (a.withPins p).endStep.pc = (b.withPins q).endStep.pc ∧ (a.withPins p).endStep.inRun = (b.withPins q).endStep.inRun ∧
    (a.withPins p).endStep.outputs = (b.withPins q).endStep.outputs ∧
    reportsOf (a.withPins p).endStep.events = reportsOf (b.withPins q).endStep.events ∧
    responsesOf (a.withPins p).endStep.events = responsesOf (b.withPins q).endStep.events := by
  obtain ⟨⟨v, es, rfl⟩, hrep, hrsp⟩ := h
  rw [endStep_eq, endStep_eq]
  exact ⟨rfl, rfl, rfl, hrep, hrsp⟩

end

/-- The labels that read the status (R116). -/
theorem issues_status {s : State} (h : s.issues (.readByte Config.status) = true) :
    s.pc = .cfgStBoot ∨ s.pc = .cfgStValid ∨ s.pc = .cfgStApp ∨ s.pc = .cfgStMode ∨ s.pc = .pollSt := by
  cases hp : s.pc <;>
    simp [State.issues, State.labelTransaction, hp, Config.status, Config.hwId, Config.errorId, Config.measMode] at h ⊢

/-- A status read answered with `d`: the latch, and the label's continuation where the label issued it. -/
def State.statusAnswered (d : Word) (s : State) : State :=
  resumeAfter s (.readByte Config.status)
    ((s.completeBus (readByteWord Config.status) (.byte (answerByte d 0))).latchByte Config.status (answerByte d 0))

theorem step_statusAnswered {s : State} {p : Inputs} {d : Word} (hf : s.fetch = .instr (.readByte Config.status))
    (hc : p.cmd = s.pins.cmd) (hr : p.rstN = true) (hb : p.bus = some ⟨false, d⟩) :
    step (s.withPins p) = .next ((s.beginStep.statusAnswered d).withPins p).endStep := by
  have hfetch : (s.withPins p).fetch = s.fetch := by
    have hl : (s.withPins p).labelTransaction = s.labelTransaction := rfl
    have hq : (s.withPins p).breq = s.breq := rfl
    simp [State.fetch, hl, hq, hc]
  have hissues : (s.beginStep.withPins p).issues (.readByte Config.status) = s.beginStep.issues (.readByte Config.status) :=
    rfl
  rw [step_run (s.withPins p) hr, hfetch, hf]
  change mapNext State.endStep (exec (.readByte Config.status) (s.beginStep.withPins p)) = _
  rw [exec_bus _ _ rfl, busTransaction, withPins_pins, hb]
  simp only [Bool.false_eq_true, if_false, mapNext, completeBus_withPins, latched_withPins, resumeAfter, hissues,
    labelDone_withPins, State.statusAnswered, apply_ite (State.withPins p)]
  rfl

/-- Answers that agree on bits 0, 3 and 4 of the status are the same but for what the latch holds. -/
theorem sameButStatus_statusAnswered (s : State) {d d' : Word} (h0 : d.getLsbD 24 = d'.getLsbD 24)
    (h3 : d.getLsbD 27 = d'.getLsbD 27) (h4 : d.getLsbD 28 = d'.getLsbD 28) :
    (s.statusAnswered d).SameButStatus (s.statusAnswered d') := by
  unfold State.statusAnswered resumeAfter
  simp only [latchByte_status]
  have hlatch : State.SameButStatus
      { s.completeBus (readByteWord Config.status) (.byte (answerByte d 0)) with st := answerByte d 0 }
      { s.completeBus (readByteWord Config.status) (.byte (answerByte d' 0)) with st := answerByte d' 0 } :=
    ⟨⟨_, _, rfl⟩, by simp, by simp⟩
  split
  next hi =>
    refine hlatch.labelDone ?_ ?_ ?_ (issues_status hi)
    · simpa [statusError, answerByte] using h0
    · simpa [statusDataReady, answerByte] using h3
    · simpa [statusAppValid, answerByte] using h4
  next => exact hlatch

/-- Settles O42: both answers latch a status that the label decides on in the same way. -/
theorem untestedStatusBitsHaveNoEffect : Obligations.UntestedStatusBitsHaveNoEffect := by
  intro s t t' d d' hf h0 h3 h4 h h'
  cases hr : s.pins.rstN with
  | false =>
    have hreset : ∀ (e : Word) (u : State), step { s with pins := { s.pins with bus := some ⟨false, e⟩ } } = .next u →
        u = s.takeReset.nextPins :=
      fun e u hu => Host.Outcome.next.inj (hu.symm.trans
        (step_reset_withPins (p := { s.pins with bus := some ⟨false, e⟩ }) s hr))
    rw [hreset d t h, hreset d' t' h']
    exact ⟨rfl, rfl, rfl, rfl, rfl⟩
  | true =>
    have hanswer : ∀ (e : Word) (u : State), step { s with pins := { s.pins with bus := some ⟨false, e⟩ } } = .next u →
        u = ((s.beginStep.statusAnswered e).withPins { s.pins with bus := some ⟨false, e⟩ }).endStep :=
      fun e u hu => Host.Outcome.next.inj (hu.symm.trans
        (step_statusAnswered (p := { s.pins with bus := some ⟨false, e⟩ }) hf rfl hr rfl))
    rw [hanswer d t h, hanswer d' t' h']
    exact (sameButStatus_statusAnswered s.beginStep h0 h3 h4).decisions _ _

end Sys2Proof.Machine

/-! PROOFS. The bus transactions (20_memory.md): what each one completes with, and its frame. -/

namespace Sys2Proof.Machine

/-! The request words as the table of R114 spells them (30_encoding.md). -/

theorem readByteWord_eq (a : Byte) : readByteWord a = 0x10#8 ++ a ++ 0x0000#16 :=
  BitVec.append_assoc (x₁ := 0x10#8 ++ a) (x₂ := 0x00#8) (x₃ := 0x00#8)

theorem writeCommandWord_eq (c : Byte) : writeCommandWord c = 0x40#8 ++ c ++ 0x0000#16 :=
  BitVec.append_assoc (x₁ := 0x40#8 ++ c) (x₂ := 0x00#8) (x₃ := 0x00#8)

theorem openWord_eq (bus : BitVec 8) (addr : BitVec 7) : openWord bus addr = 0x00#8 ++ bus ++ 0x00#8 ++ 0#1 ++ addr :=
  (BitVec.append_assoc (x₁ := 0x00#8 ++ bus ++ 0x00#8) (x₂ := 0#1) (x₃ := addr)).symm

/-! What an answer fills (10_state.md R32). -/

/-- A byte read of `a` fills the latch of `a` and no other. -/
theorem latchByte_eq (s : State) (a v : Byte) : s.latchByte a v = { s with
    st := if a = Config.status then v else s.st
    mm := if a = Config.measMode then v else s.mm
    id := if a = Config.hwId then v else s.id
    er := if a = Config.errorId then v else s.er } := by
  rcases latchByte_cases s a v with ⟨rfl, e⟩ | ⟨rfl, e⟩ | ⟨rfl, e⟩ | ⟨rfl, e⟩ | ⟨hst, hmm, hid, her, e⟩ <;> rw [e]
  · rfl
  · rfl
  · rfl
  · rfl
  · rw [if_neg hst, if_neg hmm, if_neg hid, if_neg her]

/-- The bytes delivered are the first of the answer's four (R64, R115). -/
theorem answerBytes_eq_take (d : Word) (len : Byte) : answerBytes d len =
    [d.extractLsb' 24 8, d.extractLsb' 16 8, d.extractLsb' 8 8, d.extractLsb' 0 8].take len.toNat := by
  change _ = ((List.range 4).map (answerByte d)).take len.toNat
  rw [← List.map_take, List.take_range, answerBytes]

theorem wf_readBlock_iff {a len : Byte} :
    (Instr.readBlock a len).wf = true ↔ 1 ≤ len.toNat ∧ len.toNat ≤ 4 := by
  simp [Instr.wf, blockLengthOk]

/-- The block latch holds the bytes delivered, and past them what it held (R115). -/
theorem block_take_eq (blk : Block) (d : Word) {len : Byte} (h : len.toNat ≤ 4) :
    [(blk.take d len).b0, (blk.take d len).b1, (blk.take d len).b2, (blk.take d len).b3] =
      answerBytes d len ++ [blk.b0, blk.b1, blk.b2, blk.b3].drop len.toNat := by
  rw [answerBytes_eq_take]
  unfold Block.take answerByte
  interval_cases len.toNat <;> rfl

/-! What an answered transaction does, whatever label `pc` stands at (R62, log 6). -/

/-- The state in which the transaction `i`, answered with `d`, is recorded and has filled its latch. -/
def State.filled (i : Instr) (d : Word) (s : State) : State :=
  (s.completeBus (requestOf i) (resultOf i d)).latched i d

@[simp] theorem filled_pc (i : Instr) (d : Word) (s : State) : (s.filled i d).pc = s.pc :=
  latched_pc i d (s.completeBus (requestOf i) (resultOf i d))

theorem filled_events (i : Instr) (d : Word) (s : State) :
    (s.filled i d).events = s.events ++ [.bus (requestOf i) (resultOf i d)] := by
  obtain ⟨_, _, _, _, _, _, e⟩ := latched_frame i d (s.completeBus (requestOf i) (resultOf i d))
  rw [State.filled, e, State.completeBus_events]

/-- A label's continuation performs no transaction. -/
@[simp] theorem transactionsOf_labelDone (s : State) : transactionsOf s.labelDone.events = transactionsOf s.events := by
  have iteration : ∀ (u : State) (b : Half), transactionsOf (u.endIteration b).events = transactionsOf u.events := by
    intro u b
    unfold State.endIteration
    split <;> simp
  cases h : s.pc with
  | idle | openBus | cfgAppstart | cfgMmRd | cfgMmWr | sdmRd | sdmWr | blRd | runChkPre | sleep | runChkHead =>
    simp [State.labelDone, h, State.cfgAppstartDone, State.cfgMmRdDone, State.cfgMmWrDone, State.sdmRdDone,
      State.sdmWrDone, State.blRdDone]
  | cfgHwid | cfgStBoot | cfgStValid | cfgStApp =>
    simp only [State.labelDone, h, State.cfgHwidDone, State.cfgStBootDone, State.cfgStValidDone, State.cfgStAppDone]
    split <;> simp
  | cfgErrBoot | cfgErrApp | cfgErrMode => simp [State.labelDone, h, State.errReport]
  | cfgStMode =>
    simp only [State.labelDone, h, State.cfgStModeDone, State.handshakeDone]
    split
    next => simp
    next => split <;> simp
  | pollSt =>
    simp only [State.labelDone, h, State.pollStDone]
    split
    next => simp
    next =>
      split
      next => simp
      next => exact iteration s _
  | pollData => simp [State.labelDone, h, State.pollDataDone, iteration]
  | pollErr => simp [State.labelDone, h, State.pollErrDone, iteration]

@[simp] theorem transactionsOf_resumeAfter (s t : State) (i : Instr) :
    transactionsOf (resumeAfter s i t).events = transactionsOf t.events := by
  unfold resumeAfter
  split <;> simp

/-- An answered transaction fills its latch and is recorded once (R74); the continuation of the label follows where the
label issued it, and nothing where it did not. -/
theorem exec_answered {i : Instr} {s : State} {d : Word} (hi : isHostCommand i = false)
    (hb : s.pins.bus = some ⟨false, d⟩) :
    ∃ t, exec i s = .next t ∧ t = resumeAfter s i (s.filled i d) ∧
      transactionsOf t.events = transactionsOf s.events ++ [(requestOf i, resultOf i d)] ∧
      (s.issues i = false → t = s.filled i d) := by
  refine ⟨_, ?_, rfl, ?_, fun h => ?_⟩
  · rw [exec_bus i s hi, busTransaction, hb]
    rfl
  · simp [filled_events]
  · rw [resumeAfter, h, if_neg Bool.false_ne_true]

/-! READ_BYTE (R65). -/

/-- POLL_DATA issues no byte read, so what follows one leaves the reading store and the latches. -/
theorem sameStore_resumeAfter_readByte {s t : State} {a : Byte} (ht : t.pc = s.pc) :
    t.SameStore (resumeAfter s (.readByte a) t) := by
  unfold resumeAfter
  split
  next hi =>
    refine sameStore_labelDone fun hp => ?_
    simp [State.issues, State.labelTransaction, ← ht, hp] at hi
  next => rfl

/-- Settles O38: the latch of the address is filled, and what follows leaves the reading store and the latches. -/
theorem readByteCompletes : Obligations.ReadByteCompletes := by
  intro s a d hb
  obtain ⟨t, hexec, hres, hrec, hun⟩ := exec_answered (i := .readByte a) rfl hb
  have hfilled : s.filled (.readByte a) d = _ := latchByte_eq (s.completeBus _ _) a (answerByte d 0)
  have hstore : (s.filled (.readByte a) d).SameStore t := hres ▸ sameStore_resumeAfter_readByte (filled_pc _ d s)
  rw [hfilled] at hstore hun
  rw [← readByteWord_eq]
  refine ⟨t, hexec, ?_⟩
  rw [hstore]
  refine ⟨rfl, rfl, rfl, rfl, rfl, rfl, rfl, rfl, rfl, rfl, rfl, rfl, rfl, rfl, rfl, hrec, fun hl => ?_⟩
  rw [hun (beq_false_of_ne hl)]
  exact ⟨rfl, rfl, rfl, rfl, rfl, rfl⟩

/-! READ_BLOCK (R64). -/

/-- The continuations that only go to a label, or answer the command with a response and go to IDLE. -/
theorem labelDone_answers {s : State}
    (hp : s.pc = .cfgAppstart ∨ s.pc = .cfgMmWr ∨ s.pc = .sdmWr ∨ s.pc = .blRd) :
    ∃ pc rsp es, s.labelDone = { s with pc := pc, rsp := rsp, events := es } := by
  rcases hp with hp | hp | hp | hp <;> simp only [State.labelDone, hp] <;> exact ⟨_, _, _, rfl⟩

/-- POLL_DATA's continuation writes the reading store, the label, the output ports and the record at most. -/
theorem labelDone_pollData {s : State} (hp : s.pc = .pollData) :
    ∃ pc rsp rpt es co2 tvoc v, s.labelDone = { s with
      pc := pc, rsp := rsp, rpt := rpt, events := es, readingCo2 := co2, readingTvoc := tvoc, readingValid := v } := by
  simp only [State.labelDone, hp, State.pollDataDone, State.endIteration]
  split <;> exact ⟨_, _, _, _, _, _, _, rfl⟩

/-- The labels that read a block (R116). -/
theorem issues_readBlock {s : State} {a len : Byte} (h : s.issues (.readBlock a len) = true) :
    s.pc = .blRd ∨ s.pc = .pollData := by
  cases hp : s.pc <;> simp [State.issues, State.labelTransaction, hp] at h ⊢

/-- What follows a block read answers the command at most, but for POLL_DATA's own. -/
theorem resumeAfter_readBlock {s t : State} {a len : Byte} (ht : t.pc = s.pc) :
    (∃ pc rsp es, resumeAfter s (.readBlock a len) t = { t with pc := pc, rsp := rsp, events := es }) ∨
    s.pc = .pollData ∧ s.issues (.readBlock a len) = true ∧
      resumeAfter s (.readBlock a len) t = t.labelDone := by
  unfold resumeAfter
  split
  next hi =>
    rcases issues_readBlock hi with hp | hp
    · exact .inl (labelDone_answers (.inr (.inr (.inr (ht.trans hp)))))
    · exact .inr ⟨hp, hi, rfl⟩
  next => exact .inl ⟨_, _, _, rfl⟩

/-- Settles O39: the bytes go to `blk`, and only POLL_DATA's continuation does more than answer. -/
theorem readBlockCompletes : Obligations.ReadBlockCompletes := by
  intro s a len d hwf hb
  obtain ⟨-, hlen⟩ := wf_readBlock_iff.mp hwf
  obtain ⟨t, hexec, hres, hrec, hun⟩ := exec_answered (i := .readBlock a len) rfl hb
  have hblk := block_take_eq s.blk d hlen
  have hbytes := answerBytes_eq_take d len
  have hcount : (answerBytes d len).length = len.toNat := by simpa [answerBytes] using hlen
  refine ⟨t, answerBytes d len, hexec, hbytes, hcount, ?_⟩
  rcases resumeAfter_readBlock (a := a) (len := len) (filled_pc (.readBlock a len) d s) with
    ⟨pc, rsp, es, e⟩ | ⟨hp, hi, e⟩ <;> rw [e] at hres
  · subst hres
    refine ⟨hblk, rfl, rfl, rfl, rfl, rfl, rfl, rfl, rfl, rfl, rfl, rfl, rfl, rfl, rfl, hrec,
      fun _ => ⟨rfl, rfl, rfl, rfl⟩, fun hl => ?_⟩
    have hpc := congrArg State.pc (hun (beq_false_of_ne hl))
    have hrsp := congrArg State.rsp (hun (beq_false_of_ne hl))
    exact ⟨hpc, hrsp, rfl, rfl, rfl, rfl⟩
  · obtain ⟨pc, rsp, rpt, es, co2, tvoc, v, e'⟩ := labelDone_pollData ((filled_pc (.readBlock a len) d s).trans hp)
    rw [e'] at hres
    subst hres
    refine ⟨hblk, rfl, rfl, rfl, rfl, rfl, rfl, rfl, rfl, rfl, rfl, rfl, rfl, rfl, rfl, hrec,
      fun hne => absurd hp hne, absurd (beq_iff_eq.mp hi)⟩

/-! WRITE_BYTE and WRITE_COMMAND (R66, R67). -/

/-- The labels that write (R116). -/
theorem issues_write {s : State} {i : Instr} (hi : (∃ a v, i = .writeByte a v) ∨ ∃ c, i = .writeCommand c)
    (h : s.issues i = true) : s.pc = .cfgAppstart ∨ s.pc = .cfgMmWr ∨ s.pc = .sdmWr := by
  rcases hi with ⟨a, v, rfl⟩ | ⟨c, rfl⟩ <;>
    cases hp : s.pc <;> simp [State.issues, State.labelTransaction, hp] at h ⊢

/-- What follows a write answers the command at most. -/
theorem resumeAfter_write {s t : State} {i : Instr} (hi : (∃ a v, i = .writeByte a v) ∨ ∃ c, i = .writeCommand c)
    (ht : t.pc = s.pc) : ∃ pc rsp es, resumeAfter s i t = { t with pc := pc, rsp := rsp, events := es } := by
  unfold resumeAfter
  split
  next h =>
    refine labelDone_answers ?_
    rw [ht]
    rcases issues_write hi h with hp | hp | hp
    · exact .inl hp
    · exact .inr (.inl hp)
    · exact .inr (.inr (.inl hp))
  next => exact ⟨_, _, _, rfl⟩

/-- A write's request word and that it delivers and latches nothing (R66, R67). -/
theorem write_spec {i : Instr} {w : Word} (h : (∃ a v, i = .writeByte a v ∧ w = 0x30#8 ++ a ++ 0x00#8 ++ v) ∨
    ∃ c, i = .writeCommand c ∧ w = 0x40#8 ++ c ++ 0x0000#16) (s : State) (d : Word) :
    isHostCommand i = false ∧ requestOf i = w ∧ resultOf i d = .done ∧ s.filled i d = s.completeBus w .done ∧
      s.issues i = (s.labelTransaction == some i) := by
  rcases h with ⟨a, v, rfl, rfl⟩ | ⟨c, rfl, rfl⟩
  · exact ⟨rfl, rfl, rfl, rfl, rfl⟩
  · rw [← writeCommandWord_eq]
    exact ⟨rfl, rfl, rfl, rfl, rfl⟩

/-- Settles O40: a write latches nothing, and what follows it answers the command at most. -/
theorem writesComplete : Obligations.WritesComplete := by
  intro s i d w hb hw
  obtain ⟨hbus, hreq, hdone, hfilled, hissues⟩ := write_spec hw s d
  obtain ⟨t, hexec, hres, hrec, hun⟩ := exec_answered hbus hb
  have hwrite : (∃ a v, i = .writeByte a v) ∨ ∃ c, i = .writeCommand c :=
    hw.imp (fun ⟨a, v, hi, _⟩ => ⟨a, v, hi⟩) (fun ⟨c, hi, _⟩ => ⟨c, hi⟩)
  obtain ⟨pc, rsp, es, e⟩ := resumeAfter_write hwrite (filled_pc i d s)
  rw [e] at hres
  rw [hfilled] at hres hun
  rw [hreq, hdone] at hrec
  subst hres
  refine ⟨_, hexec, rfl, rfl, rfl, rfl, rfl, rfl, rfl, rfl, rfl, rfl, rfl, rfl, rfl, rfl, rfl, rfl, rfl, rfl, rfl, hrec,
    fun hl => ?_⟩
  have hpc := congrArg State.pc (hun (hissues.trans (beq_false_of_ne hl)))
  have hrsp := congrArg State.rsp (hun (hissues.trans (beq_false_of_ne hl)))
  exact ⟨hpc, hrsp⟩

/-! OPEN (R63, R120). -/

/-- Settles O37: OPEN sets the handle, and its label's continuation goes to IDLE. -/
theorem openCompletes : Obligations.OpenCompletes := by
  intro s bus addr d hb
  obtain ⟨t, hexec, rfl, -, hun⟩ := exec_answered (i := .openHandle bus addr) rfl hb
  rw [hexec, ← openWord_eq]
  by_cases hp : s.pc = .openBus
  · have hi : s.issues (.openHandle bus addr) = true := beq_iff_eq.mpr hp
    rw [resumeAfter, hi, if_pos rfl, State.labelDone, filled_pc, hp]
    rfl
  · rw [hun (beq_false_of_ne hp), if_neg hp]
    rfl

end Sys2Proof.Machine

/-! PROOFS. The port words (30_encoding.md): the round trips of the decoder and the encoder, the acceptance of host
commands, the answers, and what a step puts on the output ports. -/

namespace Sys2Proof.Machine

/-! What a label's continuation, a latch and the end of a step leave as it is. -/

section
variable {s u : State} (h : s.SameStore u)
include h

theorem State.SameStore.cancelReq : u.cancelReq = s.cancelReq := by unfold State.SameStore at h; rw [h]
theorem State.SameStore.breq : u.breq = s.breq := by unfold State.SameStore at h; rw [h]

end

@[simp] theorem labelDone_cancelReq (s : State) : s.labelDone.cancelReq = s.cancelReq := by
  by_cases hp : s.pc = .pollData
  · exact (sameStore_labelDone_pollData hp).cancelReq
  · exact (sameStore_labelDone hp).cancelReq

@[simp] theorem labelDone_breq (s : State) : s.labelDone.breq = s.breq := by
  by_cases hp : s.pc = .pollData
  · exact (sameStore_labelDone_pollData hp).breq
  · exact (sameStore_labelDone hp).breq

@[simp] theorem latched_cancelReq (i : Instr) (d : Word) (s : State) : (s.latched i d).cancelReq = s.cancelReq := by
  obtain ⟨_, _, _, _, _, _, e⟩ := latched_frame i d s; rw [e]

@[simp] theorem latched_rpt (i : Instr) (d : Word) (s : State) : (s.latched i d).rpt = s.rpt := by
  obtain ⟨_, _, _, _, _, _, e⟩ := latched_frame i d s; rw [e]

@[simp] theorem latched_rsp (i : Instr) (d : Word) (s : State) : (s.latched i d).rsp = s.rsp := by
  obtain ⟨_, _, _, _, _, _, e⟩ := latched_frame i d s; rw [e]

@[simp] theorem latched_events (i : Instr) (d : Word) (s : State) : (s.latched i d).events = s.events := by
  obtain ⟨_, _, _, _, _, _, e⟩ := latched_frame i d s; rw [e]

@[simp] theorem endStep_breq (s : State) : s.endStep.breq = s.breq := by rw [endStep_eq]
@[simp] theorem endStep_rpt (s : State) : s.endStep.rpt = s.rpt := by rw [endStep_eq]
@[simp] theorem endStep_rsp (s : State) : s.endStep.rsp = s.rsp := by rw [endStep_eq]
@[simp] theorem endStep_events (s : State) : s.endStep.events = s.events := by rw [endStep_eq]
@[simp] theorem endStep_pc (s : State) : s.endStep.pc = s.pc := by rw [endStep_eq]

/-! Encoding and decoding (R100 to R107, R114). -/

/-- Settles O1, by evaluating the decoder on each word. -/
theorem spelledWordsDecode : Obligations.SpelledWordsDecode := by
  unfold Obligations.SpelledWordsDecode
  decide

/-- The word of a host command decodes to it. -/
theorem decodeCommand_of_encode {i : Instr} {w : Half} (h : encode i = .command w) : decodeCommand w = .ok i := by
  cases i with
  | configure | getBaseline | pollOnce | run =>
    cases h
    simp [decodeCommand, withoutOperand]
  | setDriveMode | decodeError =>
    cases h
    simp [decodeCommand]
  | openHandle | readByte | readBlock | writeByte | writeCommand => cases h

/-- Settles O2: a host command's word by its two fields, a bus transaction's by its five. -/
theorem encodedInstructionDecodesBack : Obligations.EncodedInstructionDecodesBack := by
  intro i
  cases hi : isHostCommand i with
  | true =>
    obtain ⟨w, hw⟩ := encode_host hi
    rw [hw]
    exact decodeCommand_of_encode hw
  | false =>
    rw [encode_bus i hi]
    exact decodeBus_requestOf i hi

/-- A bus request word is its five fields (R114). -/
theorem busWord_fields (w : Word) : kindField w ++ zeroField w ++ aField w ++ lField w ++ vField w = w := by
  have h1 : kindField w ++ zeroField w = w.extractLsb' 24 8 :=
    BitVec.extractLsb'_append_extractLsb'_eq_extractLsb' (by decide)
  have h2 : w.extractLsb' 24 8 ++ aField w = w.extractLsb' 16 16 :=
    BitVec.extractLsb'_append_extractLsb'_eq_extractLsb' (by decide)
  have h3 : w.extractLsb' 16 16 ++ lField w = w.extractLsb' 8 24 :=
    BitVec.extractLsb'_append_extractLsb'_eq_extractLsb' (by decide)
  have h4 : w.extractLsb' 8 24 ++ vField w = w.extractLsb' 0 32 :=
    BitVec.extractLsb'_append_extractLsb'_eq_extractLsb' (by decide)
  rw [h1, h2, h3, h4, BitVec.extractLsb'_eq_self]

theorem busRequest_of_fields {w : Word} {k : BitVec 4} {l v : Byte} (hz : zeroField w = 0x0#4) (hk : kindField w = k)
    (hl : lField w = l) (hv : vField w = v) : PortWord.busRequest (busWord k (aField w) l v) = .busRequest w := by
  subst hk hl hv
  rw [busWord, ← hz, busWord_fields]

theorem whenZero_ok {zero : Bool} {i j : Instr} (h : whenZero zero i = .ok j) : zero = true ∧ i = j := by
  unfold whenZero at h
  split at h
  · exact ⟨‹_›, Except.ok.inj h⟩
  · cases h

/-- A byte whose top bit is zero is the V field of an OPEN word (R114). -/
theorem openAddr_of_top {v : Byte} (h : v.getLsbD 7 = false) : (0#1 ++ v.extractLsb' 0 7 : Byte) = v := by
  have htop : (0#1 : BitVec 1) = v.extractLsb' 7 1 := by
    ext i hi
    obtain rfl : i = 0 := by omega
    simpa using h.symm
  rw [htop]
  exact (BitVec.extractLsb'_append_extractLsb'_eq_extractLsb' (by decide)).trans BitVec.extractLsb'_eq_self

/-- A decoded bus request word is the word of its instruction. -/
theorem encode_of_decodeBus {w : Word} {i : Instr} (h : decodeBus w = .ok i) : encode i = .busRequest w := by
  unfold decodeBus at h
  split_ifs at h with hz h0 h1 h2 h3 h4 <;> rw [not_not] at hz <;> obtain ⟨hzero, rfl⟩ := whenZero_ok h <;>
    simp only [Bool.and_eq_true, decide_eq_true_eq, Bool.not_eq_true'] at hzero
  · exact busRequest_of_fields hz h0 hzero.1 (openAddr_of_top hzero.2).symm
  · exact busRequest_of_fields hz h1 hzero.1 hzero.2
  · exact busRequest_of_fields hz h2 rfl hzero
  · exact busRequest_of_fields hz h3 hzero rfl
  · exact busRequest_of_fields hz h4 hzero.1 hzero.2

/-- Settles O3, port by port. -/
theorem decodedWordEncodesBack : Obligations.DecodedWordEncodesBack := by
  intro p i h
  cases p with
  | command w => exact encode_of_decodeCommand h
  | busRequest w => exact encode_of_decodeBus h

/-! Reserved command words (R118). -/

theorem withoutOperand_error_iff {arg : Byte} {i : Instr} :
    (∃ e, withoutOperand arg i = .error e) ↔ arg ≠ 0x00#8 := by
  unfold withoutOperand
  split <;> simp_all

/-- The decoder's last case is R118's opcodes. -/
theorem reservedOpcode_iff {op : Byte} : (op = 0x00#8 ∨ 0x07 ≤ op.toNat) ↔
    op ≠ 0x01#8 ∧ op ≠ 0x02#8 ∧ op ≠ 0x03#8 ∧ op ≠ 0x04#8 ∧ op ≠ 0x05#8 ∧ op ≠ 0x06#8 := by
  bv_omega

theorem reservedCommand_iff (w : Half) : ReservedCommand w ↔ ∃ e, decodeCommand w = .error e := by
  unfold ReservedCommand decodeCommand
  split_ifs with h1 h2 h3 h4 h5 h6
  · rw [withoutOperand_error_iff]; simp [h1]
  · simp [h2]
  · rw [withoutOperand_error_iff]; simp [h3]
  · rw [withoutOperand_error_iff]; simp [h4]
  · rw [withoutOperand_error_iff]; simp [h5]
  · simp [h6]
  · exact iff_of_true (or_assoc.mp (.inl (reservedOpcode_iff.mpr ⟨h1, h2, h3, h4, h5, h6⟩))) ⟨_, rfl⟩

/-- Settles O4: the decoder's errors are R118's list, and an accepting controller answers each of them REJECTED. -/
theorem reservedWordsAreRejected : Obligations.ReservedWordsAreRejected := by
  refine ⟨reservedCommand_iff, ?_⟩
  rintro s w hr hb ⟨hp, hc⟩ hw hres
  obtain ⟨e, he⟩ := (reservedCommand_iff w).mp hres
  rcases step_at_idle hr hb hp with ⟨hc', -⟩ | ⟨-, hw', -⟩ | ⟨w', e', -, hw', -, hstep⟩ | ⟨w', i, -, hw', hd, -⟩
  · exact absurd (hc.symm.trans hc') Bool.false_ne_true
  · cases hw.symm.trans hw'
  · cases hw.symm.trans hw'
    exact hstep
  · cases hw.symm.trans hw'
    cases he.symm.trans hd

/-! The acceptance of a host command (R107). -/

/-- `t` differs from `s` in the session state, the sequencer, the command registers and the responses given at most. -/
def State.OnlyAccepts (s t : State) : Prop :=
  (∃ top pc run op arg rsp es, t = { s with
    topState := top, pc := pc, inRun := run, curOp := op, curArg := arg, rsp := rsp, events := es }) ∧
  transactionsOf t.events = transactionsOf s.events ∧ reportsOf t.events = reportsOf s.events

/-- An accepted command's own effect (R121, R151, R155, R170, R178, R202). -/
theorem onlyAccepts_commandBody (i : Instr) (s : State) : s.OnlyAccepts (commandBody i s) := by
  cases i with
  | run =>
    simp only [commandBody]
    split <;> exact ⟨⟨_, _, _, _, _, _, _, rfl⟩, rfl, rfl⟩
  | decodeError e => exact ⟨⟨_, _, _, _, _, _, _, rfl⟩, by simp [commandBody], by simp [commandBody]⟩
  | configure | setDriveMode | getBaseline | pollOnce | openHandle | readByte | readBlock | writeByte | writeCommand =>
    exact ⟨⟨_, _, _, _, _, _, _, rfl⟩, rfl, rfl⟩

/-- Latching the command word comes before the command's own effect (R25). -/
theorem State.OnlyAccepts.of_latchCommand {s t : State} {w : Half} (h : (s.latchCommand w).OnlyAccepts t) :
    s.OnlyAccepts t := by
  obtain ⟨⟨_, _, _, _, _, _, _, rfl⟩, hbus, hrep⟩ := h
  exact ⟨⟨_, _, _, _, _, _, _, rfl⟩, hbus, hrep⟩

theorem onlyAccepts_reject (s : State) (w : Half) :
    s.OnlyAccepts ((s.latchCommand w).respond .rejected 0x0000#16) :=
  ⟨⟨_, _, _, _, _, _, _, rfl⟩, by simp, by simp⟩

/-- An acceptance changes no more than the command's own effect may: a busy controller keeps its state, a cancellation
writes the session state, a rejection is a response. -/
theorem acceptCommand_onlyAccepts {w : Half} {legal : TopState → Bool} {body : State → State} {s t : State}
    (hbody : ∀ u : State, u.OnlyAccepts (body u)) (h : acceptCommand w legal body s = .next t) : s.OnlyAccepts t := by
  rcases acceptCommand_cases w legal body s with ⟨-, e⟩ | ⟨-, -, e⟩ | ⟨-, -, -, e⟩ | ⟨-, -, -, e⟩ <;>
    rw [Host.Outcome.next.inj (h.symm.trans e)]
  · exact ⟨⟨_, _, _, _, _, _, _, rfl⟩, rfl, rfl⟩
  · exact ⟨⟨_, _, _, _, _, _, _, rfl⟩, rfl, rfl⟩
  · exact (hbody _).of_latchCommand
  · exact onlyAccepts_reject s w

theorem exec_host_onlyAccepts {i : Instr} {s t : State} (hi : isHostCommand i = true) (h : exec i s = .next t) :
    s.OnlyAccepts t := by
  obtain ⟨w, hw⟩ := encode_host hi
  rw [exec_command hw] at h
  exact acceptCommand_onlyAccepts (onlyAccepts_commandBody i) h

/-- Settles O12, from what an acceptance can change. -/
theorem commandAcceptanceFrame : Obligations.CommandAcceptanceFrame := by
  intro i s t hi h
  obtain ⟨⟨_, _, _, _, _, _, _, rfl⟩, hbus, hrep⟩ := exec_host_onlyAccepts hi h
  exact ⟨rfl, rfl, rfl, rfl, rfl, rfl, rfl, rfl, rfl, rfl, rfl, rfl, rfl, rfl, rfl, hbus, hrep⟩

/-- Settles O46: an acceptance and a transaction both answer, whatever the state. -/
theorem everyMeaningAnswers : Obligations.EveryMeaningAnswers := exec_next

/-! The bits of an answer that are not delivered (R115). -/

/-- What a transaction leads to, given the agent's answer (R62, R221). -/
def State.onAnswer (i : Instr) (a : BusAnswer) (s : State) : State :=
  if a.err then (s.completeBus (requestOf i) .busError).sessionFault .busError else resumeAfter s i (s.filled i a.data)

theorem exec_onAnswer {i : Instr} {s : State} {p : Inputs} {a : BusAnswer} (hi : isHostCommand i = false)
    (hb : p.bus = some a) : exec i (s.withPins p) = .next ((s.onAnswer i a).withPins p) := by
  have hissues : (s.withPins p).issues i = s.issues i := by cases i <;> rfl
  rw [exec_bus i _ hi, State.onAnswer]
  cases he : a.err with
  | true => simp [busTransaction, hb, he, sessionFault_withPins]
  | false =>
    simp [busTransaction, hb, he, resumeAfter, hissues, latched_withPins, labelDone_withPins, State.filled,
      apply_ite (State.withPins p)]

/-- The data `d` and `d'` of two answers agree on the bytes the transaction `i` delivers (R62, R115). -/
def SameDelivery (i : Instr) (d d' : Word) : Prop :=
  (∃ b a, i = .openHandle b a) ∨ (∃ a v, i = .writeByte a v) ∨ (∃ c, i = .writeCommand c) ∨
  (∃ a, i = .readByte a ∧ d.extractLsb' 24 8 = d'.extractLsb' 24 8) ∨
  ∃ a len, i = .readBlock a len ∧
    ∀ k : Nat, k < len.toNat → k < 4 → d.extractLsb' (24 - 8 * k) 8 = d'.extractLsb' (24 - 8 * k) 8

/-- A block's bytes and what it latches depend on its bytes only (R32, R64). -/
theorem readBlock_delivery {len : Byte} {d d' : Word}
    (h : ∀ k : Nat, k < len.toNat → k < 4 → answerByte d k = answerByte d' k) :
    answerBytes d len = answerBytes d' len ∧ ∀ blk : Block, blk.take d len = blk.take d' len := by
  constructor
  · refine List.map_congr_left fun k hk => ?_
    have hk' := List.mem_range.mp hk
    exact h k (by omega) (by omega)
  · intro blk
    simp +contextual only [Block.take, h, Nat.reduceLT]

theorem filled_congr {i : Instr} {d d' : Word} (h : SameDelivery i d d') (s : State) :
    s.filled i d = s.filled i d' := by
  rcases h with ⟨b, a, rfl⟩ | ⟨a, v, rfl⟩ | ⟨c, rfl⟩ | ⟨a, rfl, hd⟩ | ⟨a, len, rfl, hd⟩
  · rfl
  · rfl
  · rfl
  · have hbyte : answerByte d 0 = answerByte d' 0 := hd
    simp only [State.filled, resultOf, State.latched, hbyte]
  · obtain ⟨hbytes, htake⟩ := readBlock_delivery hd
    simp only [State.filled, resultOf, State.latched, State.latchBlock, hbytes, htake]

theorem onAnswer_congr {i : Instr} {e : Bool} {d d' : Word} (h : e = true ∨ SameDelivery i d d') (s : State) :
    s.onAnswer i ⟨e, d⟩ = s.onAnswer i ⟨e, d'⟩ := by
  rcases h with rfl | h
  · rfl
  · simp only [State.onAnswer, filled_congr h]

/-- Of the pins, what a step fetches depends on the command port alone. -/
theorem fetch_withPins {p : Inputs} {s : State} (hc : p.cmd = s.pins.cmd) : (s.withPins p).fetch = s.fetch := by
  have hl : (s.withPins p).labelTransaction = s.labelTransaction := rfl
  have hb : (s.withPins p).breq = s.breq := rfl
  simp [State.fetch, hl, hb, hc]

/-- A step out of reset under other pins with the same command port. -/
theorem step_run_withPins {p : Inputs} {s : State} (hr : p.rstN = true) (hc : p.cmd = s.pins.cmd) :
    step (s.withPins p) = mapNext State.endStep (runFetched s.fetch (s.beginStep.withPins p)) := by
  rw [step_run (s.withPins p) hr, fetch_withPins hc]
  rfl

/-- A meaning given two answers that agree on what it delivers. -/
theorem exec_congr_answer {i : Instr} {s : State} {p q : Inputs} {e : Bool} {d d' : Word} (hp : p.bus = some ⟨e, d⟩)
    (hq : q.bus = some ⟨e, d'⟩) (hc : p.cancel = q.cancel) (h : e = true ∨ SameDelivery i d d') :
    mapNext State.endStep (exec i (s.withPins p)) = mapNext State.endStep (exec i (s.withPins q)) := by
  cases hi : isHostCommand i with
  | true =>
    obtain ⟨w, hw⟩ := encode_host hi
    rw [exec_command hw, exec_command hw, acceptCommand_withPins p s w _ fun u => commandBody_withPins p u i,
      acceptCommand_withPins q s w _ fun u => commandBody_withPins q u i, mapNext_mapNext, mapNext_mapNext,
      funext (endStep_withPins hc)]
  | false =>
    rw [exec_onAnswer hi hp, exec_onAnswer hi hq, onAnswer_congr h]
    exact congrArg Host.Outcome.next (endStep_withPins hc _)

theorem step_congr_answer {i : Instr} {s : State} {p q : Inputs} {e : Bool} {d d' : Word} (hf : s.fetch = .instr i)
    (hp : p = { s.pins with bus := some ⟨e, d⟩ }) (hq : q = { s.pins with bus := some ⟨e, d'⟩ })
    (h : e = true ∨ SameDelivery i d d') : step (s.withPins p) = step (s.withPins q) := by
  have hreset : p.rstN = q.rstN := by rw [hp, hq]
  have hcancel : p.cancel = q.cancel := by rw [hp, hq]
  have hcp : p.cmd = s.pins.cmd := by rw [hp]
  have hcq : q.cmd = s.pins.cmd := by rw [hq]
  cases hr : p.rstN with
  | false => rw [step_reset_withPins s hr, step_reset_withPins s (hreset.symm.trans hr)]
  | true =>
    rw [step_run_withPins hr hcp, step_run_withPins (hreset.symm.trans hr) hcq, hf]
    exact exec_congr_answer (by rw [hp]) (by rw [hq]) hcancel h

/-- Settles O41: the step runs the same transaction on two answers that agree on what it delivers. -/
theorem ignoredAnswerBitsHaveNoEffect : Obligations.IgnoredAnswerBitsHaveNoEffect :=
  fun _ _ _ _ _ hf h => step_congr_answer hf rfl rfl h

/-! The cancellation latch (R112). -/

theorem State.OnlyAccepts.cancelReq {s t : State} (h : s.OnlyAccepts t) : t.cancelReq = s.cancelReq := by
  obtain ⟨⟨_, _, _, _, _, _, _, rfl⟩, -⟩ := h
  rfl

theorem internalStep_cancelReq (s : State) : s.internalStep.cancelReq = s.cancelReq := by
  cases h : s.pc <;> simp only [State.internalStep, h, State.checkpoint, State.sleepTick] <;> split <;> rfl

/-- Whatever a step runs, the latch is written at the end of the step only. -/
theorem runFetched_cancelReq {f : Fetched} {s t : State} (h : runFetched f s = .next t) : t.cancelReq = s.cancelReq := by
  cases f with
  | instr i =>
    cases hi : isHostCommand i with
    | true => exact (exec_host_onlyAccepts hi h).cancelReq
    | false =>
      rcases exec_bus_cases hi h with rfl | rfl | ⟨d, rfl⟩
      · rfl
      · simp
      · unfold resumeAfter
        split <;> simp
  | reservedCommand w =>
    have h' : acceptCommand w (fun _ => false) (fun u => u) s = .next t := h
    exact (acceptCommand_onlyAccepts (fun _ => ⟨⟨_, _, _, _, _, _, _, rfl⟩, rfl, rfl⟩) h').cancelReq
  | reservedBus w => cases h
  | internal =>
    cases h
    exact internalStep_cancelReq s

/-- Whatever a step runs, the pins of its tick stay until its end. -/
theorem runFetched_pins {f : Fetched} {s t : State} (h : runFetched f s = .next t) : t.pins = s.pins := by
  have hpins : runFetched f s = mapNext (State.withPins s.pins) (runFetched f s) := runFetched_withPins s.pins s f rfl rfl
  rw [h] at hpins
  have ht : t = t.withPins s.pins := Host.Outcome.next.inj hpins
  rw [ht, withPins_pins]

theorem step_withCancel {s : State} {p : Inputs} {b : Bool} (hr : s.pins.rstN = true)
    (hp : p = { s.pins with cancel := b }) :
    step (s.withPins p) = mapNext (fun t => { t with cancelReq := s.cancelReq || b }) (step s) := by
  rw [step_run_withPins (by rw [hp]; exact hr) (by rw [hp]), step_run s hr,
    runFetched_withPins p s.beginStep s.fetch (by rw [hp]; rfl) (by rw [hp]; rfl), mapNext_mapNext, mapNext_mapNext]
  cases hu : runFetched s.fetch s.beginStep with
  | next u =>
    have hc : u.cancelReq = s.cancelReq := (runFetched_cancelReq hu :)
    simp only [mapNext, endStep_eq, ← hc, hp]
    rfl
  | fault r => rfl
  | refused r => rfl

/-- Settles O58: only the end of a step sees the pin, and it writes the latch. -/
theorem cancelOnlySetsTheLatch : Obligations.CancelOnlySetsTheLatch := by
  refine ⟨fun s t hr h => ?_, fun _ _ hr => step_withCancel hr rfl⟩
  rw [step_run s hr] at h
  obtain ⟨u, hu, rfl⟩ := (mapNext_next _ _ _).mp h
  rw [endStep_eq, runFetched_cancelReq hu, runFetched_pins hu]
  rfl

/-! The words on the request port (R116). -/

/-- The byte a drive-mode write carries, with its constants written out (R116, R150). -/
theorem driveModeByte_eq (mm m : Byte) :
    driveModeByte mm m = (mm &&& 0x8F#8) ||| (BitVec.ofNat 8 (min m.toNat 4) <<< 4) := by
  have hmask : ~~~driveModeMask = 0x8F#8 := by decide
  have hclamp : clampMode m = BitVec.ofNat 8 (min m.toNat 4) := by
    have hmax : Config.modeMax.toNat = 4 := rfl
    unfold clampMode
    split
    next h => rw [← hmax, min_eq_left h, BitVec.ofNat_toNat, BitVec.setWidth_eq]
    next h => rw [← hmax, min_eq_right (le_of_not_ge h), BitVec.ofNat_toNat, BitVec.setWidth_eq]
  rw [driveModeByte, hmask, hclamp]

theorem writeByteWord_measMode (v : Byte) : writeByteWord Config.measMode v = 0x300100#24 ++ v := rfl

/-- R116's list is the request word of the label's transaction. -/
theorem requestWord_eq (s : State) : s.requestWord = s.labelTransaction.map requestOf := by
  cases hp : s.pc with
  | openBus =>
    simp only [State.requestWord, State.labelTransaction, hp, Option.map_some, requestOf, openWord_eq]
    rfl
  | cfgMmWr =>
    simp only [State.requestWord, State.labelTransaction, hp, Option.map_some, requestOf, State.cfgModeValue,
      writeByteWord_measMode, driveModeByte_eq]
    rfl
  | sdmWr =>
    simp only [State.requestWord, State.labelTransaction, hp, Option.map_some, requestOf, State.sdmValue,
      writeByteWord_measMode, driveModeByte_eq]
  | idle | cfgHwid | cfgStBoot | cfgErrBoot | cfgStValid | cfgAppstart | cfgStApp | cfgErrApp | cfgMmRd | cfgStMode
  | cfgErrMode | sdmRd | blRd | pollSt | pollData | pollErr | runChkPre | sleep | runChkHead =>
    simp only [State.requestWord, State.labelTransaction, hp]
    rfl

/-- At a label without transaction a step uses the response port at most. -/
theorem moves_without_transaction {s u : State} (h : s.Moves u) (hl : s.labelTransaction = none) :
    u.breq = s.breq ∧ u.rpt = none ∧ transactionsOf u.events = transactionsOf s.events ∧
      reportsOf u.events = reportsOf s.events := by
  cases h with
  | waits hl' | fails hl' | completes hl' => cases hl.symm.trans hl'
  | rests | cancels | goes => exact ⟨rfl, rfl, rfl, rfl⟩
  | stops => exact ⟨rfl, rfl, by simp [State.stopRun], by simp [State.stopRun]⟩
  | @rejects w =>
    obtain ⟨⟨_, _, _, _, _, _, _, e⟩, hbus, hrep⟩ := onlyAccepts_reject s.beginStep w
    exact ⟨by rw [e]; rfl, by rw [e]; rfl, hbus, hrep⟩
  | @accepts i w =>
    obtain ⟨⟨_, _, _, _, _, _, _, e⟩, hbus, hrep⟩ :=
      (onlyAccepts_commandBody i (s.beginStep.latchCommand w)).of_latchCommand
    exact ⟨by rw [e]; rfl, by rw [e]; rfl, hbus, hrep⟩

/-- Settles O55: at a label with a transaction by the agent's answer; every other step issues nothing. -/
theorem onlyListedRequestsAreIssued : Obligations.OnlyListedRequestsAreIssued := by
  rintro s t ⟨-, -, -, -, -, hbus, -, -⟩ hr h
  rw [requestWord_eq]
  cases hl : s.labelTransaction with
  | none =>
    obtain ⟨u, hu, rfl⟩ := step_moves hr hbus h
    obtain ⟨hbreq, -, htrans, -⟩ := moves_without_transaction hu hl
    simp [hbreq, breq_none_of_fits hbus hl, htrans]
  | some i =>
    rcases step_at_label hr hbus hl with ⟨hb, e⟩ | ⟨d, hb, e⟩ | ⟨d, hb, e⟩ <;>
      rw [Host.Outcome.next.inj (h.symm.trans e)]
    · simp [hb]
    · simp [hb]
    · simp [hb, latched_events]

/-! The reports (R110, R111). -/

/-- The report of the label at `pc`, of the byte or the block it has just latched (R111). -/
def State.reportDue (s : State) : Option Report :=
  if s.pc = .cfgErrBoot ∨ s.pc = .cfgErrApp ∨ s.pc = .cfgErrMode ∨ s.pc = .pollErr then
    some (.fault (decodeErrorByte s.er))
  else if s.pc = .pollData then some (.reading (joinBytes s.blk.b0 s.blk.b1) (joinBytes s.blk.b2 s.blk.b3))
  else none

/-- `u` gives the report `r`, recorded after those of `s`. -/
def State.Reports (s : State) (r : Option Report) (u : State) : Prop :=
  u.rpt = r ∧ reportsOf u.events = reportsOf s.events ++ r.toList

@[simp] theorem endIteration_rpt (s : State) (b : Half) : (s.endIteration b).rpt = s.rpt := by
  unfold State.endIteration
  split <;> rfl

@[simp] theorem reportsOf_endIteration (s : State) (b : Half) :
    reportsOf (s.endIteration b).events = reportsOf s.events := by
  unfold State.endIteration
  split <;> simp

@[simp] theorem handshakeDone_rpt (s : State) : s.handshakeDone.rpt = s.rpt := by
  simp only [State.handshakeDone]
  split <;> rfl

@[simp] theorem reportsOf_handshakeDone (s : State) : reportsOf s.handshakeDone.events = reportsOf s.events := by
  simp only [State.handshakeDone]
  split <;> simp

theorem labelDone_reports {s : State} (h : s.rpt = none) : s.Reports s.reportDue s.labelDone := by
  unfold State.Reports
  cases hp : s.pc with
  | idle | openBus | cfgAppstart | cfgMmRd | cfgMmWr | sdmRd | sdmWr | blRd | runChkPre | sleep | runChkHead =>
    simp [State.labelDone, State.reportDue, hp, h, State.cfgAppstartDone, State.cfgMmRdDone, State.cfgMmWrDone,
      State.sdmRdDone, State.sdmWrDone, State.blRdDone]
  | cfgHwid | cfgStBoot | cfgStValid | cfgStApp | cfgStMode =>
    simp only [State.labelDone, State.reportDue, hp, State.cfgHwidDone, State.cfgStBootDone, State.cfgStValidDone,
      State.cfgStAppDone, State.cfgStModeDone]
    split <;> simp [h]
  | cfgErrBoot | cfgErrApp | cfgErrMode => simp [State.labelDone, State.reportDue, hp, State.errReport]
  | pollSt =>
    simp only [State.labelDone, State.reportDue, hp, State.pollStDone]
    split
    next => simp [h]
    next => split <;> simp [h]
  | pollData => simp [State.labelDone, State.reportDue, hp, State.pollDataDone]
  | pollErr => simp [State.labelDone, State.reportDue, hp, State.pollErrDone]

/-- What the label has latched is what R111 reports of the answer. -/
theorem reportDue_latched {s u : State} {i : Instr} (hl : s.labelTransaction = some i) (hp : u.pc = s.pc) (d : Word) :
    (u.latched i d).reportDue = reportAt s.pc (some ⟨false, d⟩) := by
  unfold State.reportDue reportAt
  rw [latched_pc, hp]
  simp only [Bool.false_eq_true, if_false]
  split
  next he =>
    have hi : i = .readByte Config.errorId := by
      rcases he with he | he | he | he <;> simpa [State.labelTransaction, he, eq_comm] using hl
    rw [hi]
    rfl
  next =>
    split
    next hd =>
      have hi : i = .readBlock Config.algResultData Config.algBlockLen := by
        simpa [State.labelTransaction, hd, eq_comm] using hl
      obtain ⟨hco2, htvoc⟩ := join_block u.blk d
      rw [hi, ← hco2, ← htvoc]
      rfl
    next => rfl

/-- A label whose transaction is not answered reports nothing. -/
@[simp] theorem reportAt_unanswered (l : Label) : reportAt l none = none := rfl

/-- A label whose transaction fails reports nothing (R111). -/
@[simp] theorem reportAt_busError (l : Label) (d : Word) : reportAt l (some ⟨true, d⟩) = none := rfl

/-- A label that issues no transaction reports nothing. -/
theorem reportAt_without_transaction {s : State} (hl : s.labelTransaction = none) (a : Option BusAnswer) :
    reportAt s.pc a = none := by
  rcases labelTransaction_none hl with hp | hp | hp | hp <;> cases a <;> simp [reportAt, hp]

/-- Settles O53: only an answered label reports, and it reports what it has latched. -/
theorem reportsOnlyWhereListed : Obligations.ReportsOnlyWhereListed := by
  rintro s t ⟨-, -, -, -, -, hbus, -, -⟩ hr h
  suffices hreports : s.Reports (reportAt s.pc s.pins.bus) t by
    obtain ⟨hrpt, hrep⟩ := hreports
    exact ⟨hrpt, by rw [hrpt, hrep]⟩
  unfold State.Reports
  cases hl : s.labelTransaction with
  | none =>
    obtain ⟨u, hu, rfl⟩ := step_moves hr hbus h
    obtain ⟨-, hrpt, -, hrep⟩ := moves_without_transaction hu hl
    simp [reportAt_without_transaction hl, hrpt, hrep]
  | some i =>
    rcases step_at_label hr hbus hl with ⟨hb, e⟩ | ⟨d, hb, e⟩ | ⟨d, hb, e⟩ <;>
      rw [Host.Outcome.next.inj (h.symm.trans e), hb]
    · simp
    · simp
    · obtain ⟨hrpt, hrep⟩ := labelDone_reports
        (s := (s.beginStep.completeBus (requestOf i) (resultOf i d)).latched i d) (by simp)
      have hdue := reportDue_latched (u := s.beginStep.completeBus (requestOf i) (resultOf i d)) hl rfl d
      simp [hrpt, hrep, hdue]

/-! The responses (R108). -/

/-- `u` gives at most one response, recorded after those of `s`, and exactly where it goes to IDLE from a label other
than OPEN. -/
def State.Responds (s u : State) : Prop :=
  responsesOf u.events = responsesOf s.events ++ u.rsp.toList ∧ (u.rsp.isSome = true ↔ u.pc = .idle ∧ s.pc ≠ .openBus)

/-- Only the label and the responses before matter. -/
theorem State.Responds.of_same {s s' u : State} (h : s'.Responds u)
    (he : responsesOf s'.events = responsesOf s.events) (hp : s'.pc = s.pc) : s.Responds u := by
  unfold State.Responds at h ⊢
  rwa [← he, ← hp]

section
variable {s : State}

theorem responds_goto {l : Label} (h : s.rsp = none) (hl : l ≠ .idle) : s.Responds (s.goto l) := by
  simp [State.Responds, h, hl]

theorem responds_respond (hp : s.pc ≠ .openBus) (c : RspCode) (d : Half) :
    s.Responds ((s.respond c d).goto .idle) := by
  simp [State.Responds, hp]

/-- A session fault answers the command in progress (R220); at OPEN there is none. -/
theorem responds_sessionFault (h : s.rsp = none) (hp : s.pc ≠ .idle) (f : SessionFault) :
    s.Responds (s.sessionFault f) := by
  rcases sessionFault_cases s f with ⟨hc, e⟩ | ⟨hc, e⟩ <;>
    simp_all [State.Responds, State.commandInProgress]

theorem responds_endIteration (h : s.rsp = none) (hp : s.pc ≠ .openBus) (b : Half) :
    s.Responds (s.endIteration b) := by
  unfold State.endIteration
  split
  · exact responds_goto h (by decide)
  · exact responds_respond hp _ _

theorem responds_handshakeDone (h : s.rsp = none) (hp : s.pc ≠ .openBus) : s.Responds s.handshakeDone := by
  simp only [State.handshakeDone]
  split
  · simp [State.Responds, h]
  · simp [State.Responds, hp]

/-- A label that completes a command answers it. -/
theorem responds_labelDone (h : s.rsp = none) (hi : s.pc ≠ .idle) : s.Responds s.labelDone := by
  have onward : ∀ l : Label, l ≠ .idle → s.Responds (s.goto l) := fun _ => responds_goto h
  cases hp : s.pc with
  | idle => exact absurd hp hi
  | openBus | runChkPre | sleep | runChkHead => simp [State.Responds, State.labelDone, hp, h]
  | cfgAppstart | cfgMmRd | cfgMmWr | sdmRd =>
    simp only [State.labelDone, hp]
    exact onward _ (by decide)
  | sdmWr | blRd =>
    simp only [State.labelDone, hp]
    exact responds_respond (by simp [hp]) _ _
  | cfgHwid =>
    simp only [State.labelDone, hp, State.cfgHwidDone]
    split
    · exact responds_sessionFault h hi _
    · exact onward _ (by decide)
  | cfgStValid =>
    simp only [State.labelDone, hp, State.cfgStValidDone]
    split
    · exact onward _ (by decide)
    · exact responds_sessionFault h hi _
  | cfgStBoot | cfgStApp =>
    simp only [State.labelDone, hp, State.cfgStBootDone, State.cfgStAppDone]
    split <;> exact onward _ (by decide)
  | cfgErrBoot | cfgErrApp | cfgErrMode =>
    simp only [State.labelDone, hp]
    exact (responds_sessionFault (s := s.emit _) h hi _).of_same (by simp) rfl
  | cfgStMode =>
    simp only [State.labelDone, hp, State.cfgStModeDone]
    split
    · exact onward _ (by decide)
    · exact responds_handshakeDone h (by simp [hp])
  | pollSt =>
    simp only [State.labelDone, hp, State.pollStDone]
    split
    · exact onward _ (by decide)
    · split
      · exact onward _ (by decide)
      · exact responds_endIteration h (by simp [hp]) _
  | pollData =>
    simp only [State.labelDone, hp]
    exact (responds_endIteration (s := (s.storeReading _ _).emit _) h (by simp [hp]) _).of_same (by simp) rfl
  | pollErr =>
    simp only [State.labelDone, hp]
    exact (responds_endIteration (s := s.emit _) h (by simp [hp]) _).of_same (by simp) rfl

end

/-- At a busy label. -/
theorem responds_busy {s u : State} (h : s.Moves u) (hp : s.pc ≠ .idle) : s.Responds u := by
  cases h with
  | waits => simp [State.Responds, hp]
  | fails =>
    exact (responds_sessionFault (s := s.beginStep.completeBus _ _) rfl hp _).of_same (by simp) rfl
  | completes =>
    exact (responds_labelDone (by simp) (by simpa using hp)).of_same (by simp) (by simp)
  | rests => simp [State.Responds, hp]
  | cancels hi | rejects hi | accepts hi => exact absurd hi hp
  | stops hc =>
    refine (responds_respond (s := { s.beginStep with topState := .stopped, inRun := false }) ?_ _ _).of_same rfl rfl
    rcases hc with hc | hc <;> simp [hc]
  | goes hl =>
    refine (responds_goto (s := s.beginStep) rfl ?_).of_same rfl rfl
    rcases hl with ⟨-, rfl⟩ | ⟨-, rfl⟩ | ⟨-, rfl⟩ <;> decide

/-- A command accepted at IDLE is answered at once exactly where it leaves the sequencer there. -/
theorem commandBody_responds {i : Instr} {s : State} (hi : isHostCommand i = true) (h : s.rsp = none)
    (hp : s.pc = .idle) :
    responsesOf (commandBody i s).events = responsesOf s.events ++ (commandBody i s).rsp.toList ∧
      ((commandBody i s).rsp.isSome = true ↔ (commandBody i s).pc = .idle) := by
  cases i with
  | configure | setDriveMode | getBaseline | pollOnce => simp [commandBody, State.beginHandshake, h]
  | run =>
    simp only [commandBody]
    split <;> simp [State.beginHandshake, h]
  | decodeError => simp [commandBody, hp]
  | openHandle | readByte | readBlock | writeByte | writeCommand => cases hi

/-- A command accepted, or rejected, without a pending cancellation. -/
theorem exec_responds {i : Instr} {w : Half} {s t : State} (hi : encode i = .command w) (hrsp : s.rsp = none)
    (hp : s.pc = .idle) (hc : s.cancelPending = false) (h : exec i s = .next t) :
    responsesOf t.events = responsesOf s.events ++ t.rsp.toList ∧ (t.rsp.isSome = true ↔ t.pc = .idle) := by
  rw [exec_command hi] at h
  rcases acceptCommand_cases w (commandLegal i) (commandBody i) s with
    ⟨hn, -⟩ | ⟨-, hc', -⟩ | ⟨-, -, -, e⟩ | ⟨-, -, -, e⟩
  · exact absurd hp hn
  · exact absurd (hc.symm.trans hc') Bool.false_ne_true
  · rw [Host.Outcome.next.inj (h.symm.trans e)]
    exact commandBody_responds (s := s.latchCommand w) (decodeCommand_host (decodeCommand_of_encode hi)) hrsp hp
  · rw [Host.Outcome.next.inj (h.symm.trans e)]
    simp [hp]

/-- At IDLE: a response is given to an accepted command that leaves the sequencer there. -/
theorem responds_idle {s t : State} (hr : s.pins.rstN = true) (hb : s.breq = none) (hp : s.pc = .idle)
    (h : step s = .next t) :
    responsesOf t.events = responsesOf s.events ++ t.rsp.toList ∧
      (t.rsp.isSome = true ↔ t.pc = .idle ∧ s.accepting ∧ s.pins.cmd.isSome = true) := by
  rcases step_at_idle hr hb hp with ⟨hc, e⟩ | ⟨hc, hw, e⟩ | ⟨w, -, hc, hw, -, e⟩ | ⟨w, i, hc, hw, hd, e⟩ <;>
    rw [h] at e
  · rw [Host.Outcome.next.inj e]
    simp [State.accepting, hc]
  · rw [Host.Outcome.next.inj e]
    simp [hw]
  · rw [Host.Outcome.next.inj e]
    simp [State.accepting, hc, hw, hp]
  · obtain ⟨u, hu, rfl⟩ := (mapNext_next _ _ _).mp e.symm
    obtain ⟨hrec, hiff⟩ := exec_responds (s := s.beginStep) (encode_of_decodeCommand hd) rfl hp hc hu
    have haccept : s.accepting := ⟨hp, hc⟩
    simpa [haccept, hw] using ⟨hrec, hiff⟩

/-- Settles O52: at IDLE by the command port, at a busy label by the end of its command. -/
theorem oneResponsePerCommand : Obligations.OneResponsePerCommand := by
  refine ⟨rfl, rfl, rfl, rfl, ?_⟩
  rintro s t ⟨-, -, -, -, -, hbus, -, -⟩ hr h
  by_cases hp : s.pc = .idle
  · simpa [hp] using responds_idle hr (breq_none_of_fits hbus (by simp [State.labelTransaction, hp])) hp h
  · obtain ⟨u, hu, rfl⟩ := step_moves hr hbus h
    simpa [State.Responds, State.accepting, hp] using responds_busy hu hp

end Sys2Proof.Machine

/-! PROOFS. The bring-up handshake (40_handshake.md): its steps label by label, and the run of CONFIGURE against its
pseudocode. -/

namespace Sys2Proof.Machine

/-! The transaction of the label at `pc`, answered. -/

/-- The label's own transaction fills its latch and the label goes on. -/
theorem exec_label_answered {i : Instr} {s : State} {d : Word} (hl : s.labelTransaction = some i)
    (hb : s.pins.bus = some ⟨false, d⟩) : exec i s = .next (s.filled i d).labelDone := by
  obtain ⟨t, he, rfl, -, -⟩ := exec_answered (labelTransaction_bus hl) hb
  rw [he, resumeAfter, issues_label hl, if_pos rfl]

/-- `BusError` is BUS_ERROR, whatever label issued the transaction (R221). -/
theorem exec_busError {i : Instr} {s : State} {d : Word} (hi : isHostCommand i = false)
    (hb : s.pins.bus = some ⟨true, d⟩) :
    exec i s = .next ((s.completeBus (requestOf i) .busError).sessionFault .busError) := by
  rw [exec_bus i s hi, busTransaction, hb]
  rfl

section
variable (d : Word) (s : State)

theorem filled_hwId : s.filled (.readByte Config.hwId) d = { s with
    id := d.extractLsb' 24 8, breq := none,
    events := s.events ++ [.bus 0x10200000#32 (.byte (d.extractLsb' 24 8))] } := rfl

theorem filled_status : s.filled (.readByte Config.status) d = { s with
    st := d.extractLsb' 24 8, breq := none,
    events := s.events ++ [.bus 0x10000000#32 (.byte (d.extractLsb' 24 8))] } := rfl

theorem filled_errorId : s.filled (.readByte Config.errorId) d = { s with
    er := d.extractLsb' 24 8, breq := none,
    events := s.events ++ [.bus 0x10E00000#32 (.byte (d.extractLsb' 24 8))] } := rfl

/-- Bit 0 of the status byte is bit 24 of the answer (R81, R115). -/
theorem statusError_answer : statusError (d.extractLsb' 24 8) = d.getLsbD 24 := by simp [statusError]

/-- Bit 4 of the status byte is bit 28 of the answer (R81, R115). -/
theorem statusAppValid_answer : statusAppValid (d.extractLsb' 24 8) = d.getLsbD 28 := by simp [statusAppValid]

end

/-! The ends of the handshake. -/

/-- CONFIGURE or RUN is in progress throughout the handshake (R22). -/
theorem inProgress_of_inHandshake {s : State} (h : s.pc.inHandshake = true) : s.commandInProgress = true := by
  unfold State.commandInProgress
  revert h
  cases s.pc <;> decide

/-- A session fault in the handshake answers the command (R220). -/
theorem sessionFault_inHandshake {s : State} (h : s.pc.inHandshake = true) (f : SessionFault) :
    s.sessionFault f = { s with
      faultCode := f, topState := .faulted, inRun := false, pc := .idle, rsp := some ⟨.fault, f.responseData⟩,
      events := s.events ++ [.response ⟨.fault, f.responseData⟩] } := by
  rcases sessionFault_cases s f with ⟨-, e⟩ | ⟨hn, -⟩
  · exact e
  · exact absurd ((inProgress_of_inHandshake h).symm.trans hn) (by decide)

/-- `ErrReport` in the handshake: the report is recorded before the response of the fault (R127). -/
theorem errReport_inHandshake {s : State} (h : s.pc.inHandshake = true) (f : SessionFault) :
    s.errReport f = { s with
      rpt := some (.fault (decodeErrorByte s.er)), faultCode := f, topState := .faulted, inRun := false, pc := .idle,
      rsp := some ⟨.fault, f.responseData⟩,
      events := s.events ++ [.report (.fault (decodeErrorByte s.er)), .response ⟨.fault, f.responseData⟩] } := by
  rw [State.errReport, sessionFault_inHandshake (by exact h), State.emit_events, List.append_assoc]
  rfl

/-- Success gives the response of CONFIGURE, and sends RUN to its head checkpoint (R131). -/
theorem handshakeDone_eq (s : State) :
    s.handshakeDone = if s.inRun then { s with topState := .polling, pc := .runChkHead }
      else { s with
        topState := .polling, pc := .idle, rsp := some ⟨.ok, 0x0000#16⟩,
        events := s.events ++ [.response ⟨.ok, 0x0000#16⟩] } := rfl

/-! What each label of the handshake issues and how it goes on (R122). -/

section
variable {s : State}

theorem labelDone_cfgHwid (hp : s.pc = .cfgHwid) :
    s.labelDone = if s.id = Config.hwIdExpected then s.goto .cfgStBoot else s.sessionFault .deviceNotFound := by
  simp only [State.labelDone, hp, State.cfgHwidDone, ne_eq, ite_not]

theorem labelDone_cfgStBoot (hp : s.pc = .cfgStBoot) :
    s.labelDone = s.goto (if statusError s.st then .cfgErrBoot else .cfgStValid) := by
  simp only [State.labelDone, hp, State.cfgStBootDone, apply_ite (State.goto · s)]

theorem labelDone_cfgStValid (hp : s.pc = .cfgStValid) :
    s.labelDone = if statusAppValid s.st then s.goto .cfgAppstart else s.sessionFault .noValidApplication := by
  simp only [State.labelDone, hp, State.cfgStValidDone]

theorem labelDone_cfgAppstart (hp : s.pc = .cfgAppstart) : s.labelDone = s.goto .cfgStApp := by
  simp only [State.labelDone, hp, State.cfgAppstartDone]

theorem labelDone_cfgStApp (hp : s.pc = .cfgStApp) :
    s.labelDone = s.goto (if statusError s.st then .cfgErrApp else .cfgMmRd) := by
  simp only [State.labelDone, hp, State.cfgStAppDone, apply_ite (State.goto · s)]

theorem labelDone_cfgMmRd (hp : s.pc = .cfgMmRd) : s.labelDone = s.goto .cfgMmWr := by
  simp only [State.labelDone, hp, State.cfgMmRdDone]

theorem labelDone_cfgMmWr (hp : s.pc = .cfgMmWr) : s.labelDone = s.goto .cfgStMode := by
  simp only [State.labelDone, hp, State.cfgMmWrDone]

theorem labelDone_cfgStMode (hp : s.pc = .cfgStMode) :
    s.labelDone = if statusError s.st then s.goto .cfgErrMode else s.handshakeDone := by
  simp only [State.labelDone, hp, State.cfgStModeDone]

/-- The handshake's error labels end in the session fault of their stage (R127). -/
theorem labelDone_error {f : SessionFault} (h : (s.pc = .cfgErrBoot ∧ f = .startupError) ∨
    (s.pc = .cfgErrApp ∧ f = .appStartError) ∨ (s.pc = .cfgErrMode ∧ f = .driveModeError)) :
    s.labelDone = s.errReport f := by
  rcases h with ⟨hp, rfl⟩ | ⟨hp, rfl⟩ | ⟨hp, rfl⟩ <;> simp only [State.labelDone, hp]

theorem labelTransaction_status (hp : s.pc = .cfgStBoot ∨ s.pc = .cfgStValid ∨ s.pc = .cfgStApp ∨ s.pc = .cfgStMode) :
    s.labelTransaction = some (.readByte Config.status) := by
  rcases hp with hp | hp | hp | hp <;> simp only [State.labelTransaction, hp]

theorem labelTransaction_error (hp : s.pc = .cfgErrBoot ∨ s.pc = .cfgErrApp ∨ s.pc = .cfgErrMode) :
    s.labelTransaction = some (.readByte Config.errorId) ∧ s.pc.inHandshake = true := by
  rcases hp with hp | hp | hp <;> exact ⟨by simp only [State.labelTransaction, hp], by rw [hp]; rfl⟩

/-- CFG_MM_WR writes mode 1 into the byte read (R129). -/
theorem cfgModeValue_eq : s.cfgModeValue = (s.mm &&& 0x8F#8) ||| 0x10#8 := driveModeByte_eq s.mm Config.defaultMode

theorem labelTransaction_cfgMmWr (hp : s.pc = .cfgMmWr) :
    s.labelTransaction = some (.writeByte 0x01#8 ((s.mm &&& 0x8F#8) ||| 0x10#8)) := by
  simp only [State.labelTransaction, hp, cfgModeValue_eq]
  rfl

end

/-! The single steps. -/

/-- A command that the session state allows, presented to an accepting state, is latched and begun (R107). -/
theorem exec_accepts {i : Instr} {w : Half} {s : State} (hi : encode i = .command w) (hs : s.accepting)
    (hl : commandLegal i s.topState = true) : exec i s = .next (commandBody i (s.latchCommand w)) := by
  obtain ⟨hp, hc⟩ := hs
  rw [exec_command hi, acceptCommand, if_neg (not_not_intro hp), hc, if_neg Bool.false_ne_true, if_pos hl]

/-- Settles O5: both commands are legal in UNINITIALIZED, and there both begin the handshake. -/
theorem configureEntersHandshake : Obligations.ConfigureEntersHandshake := by
  refine ⟨rfl, fun s hs hu => ⟨exec_accepts (i := .configure) rfl hs (by rw [hu]; rfl), ?_⟩⟩
  rw [exec_accepts (i := .run) rfl hs (by rw [hu]; rfl), commandBody, if_pos (by exact hu)]
  rfl

/-- Settles O14: the byte latched is the byte compared. -/
theorem identityCheck : Obligations.IdentityCheck := by
  intro s d hp hb
  have hl : s.labelTransaction = some (.readByte Config.hwId) := by simp only [State.labelTransaction, hp]
  have hexec := exec_label_answered hl hb
  rw [labelDone_cfgHwid ((filled_pc _ d s).trans hp), filled_hwId] at hexec
  constructor <;> intro hid
  · rw [if_pos (by exact hid), hid] at hexec
    exact hexec
  · rw [if_neg (by exact hid), sessionFault_inHandshake (by rw [hp]; rfl), List.append_assoc] at hexec
    exact ⟨_, hexec⟩

/-- Settles O15: bit 0 chooses the label to go to. -/
theorem errorBitChecks : Obligations.ErrorBitChecks := by
  intro s d hb
  constructor <;> intro hp
  · have hexec := exec_label_answered (labelTransaction_status (.inl hp)) hb
    rw [labelDone_cfgStBoot ((filled_pc _ d s).trans hp), filled_status, statusError_answer] at hexec
    exact hexec
  · have hexec := exec_label_answered (labelTransaction_status (.inr (.inr (.inl hp)))) hb
    rw [labelDone_cfgStApp ((filled_pc _ d s).trans hp), filled_status, statusError_answer] at hexec
    exact hexec

/-- Settles O16: bit 4 decides between the next label and the session fault. -/
theorem applicationValidCheck : Obligations.ApplicationValidCheck := by
  intro s d hp hb
  have hexec := exec_label_answered (labelTransaction_status (.inr (.inl hp))) hb
  rw [labelDone_cfgStValid ((filled_pc _ d s).trans hp), filled_status, statusAppValid_answer] at hexec
  constructor <;> intro hv <;> rw [hv] at hexec
  · exact hexec
  · rw [if_neg Bool.false_ne_true, sessionFault_inHandshake (by rw [hp]; rfl), List.append_assoc] at hexec
    exact hexec

/-- Settles O17: three labels that go on whatever the answer's data is. -/
theorem appStartAndModeWrite : Obligations.AppStartAndModeWrite := by
  refine fun s d hb => ⟨fun hp => ?_, fun hp => ?_, fun hp => ⟨labelTransaction_cfgMmWr hp, ?_⟩⟩
  · have hl : s.labelTransaction = some (.writeCommand Config.appStart) := by simp only [State.labelTransaction, hp]
    have hexec := exec_label_answered hl hb
    rw [labelDone_cfgAppstart ((filled_pc _ d s).trans hp)] at hexec
    exact hexec
  · have hl : s.labelTransaction = some (.readByte Config.measMode) := by simp only [State.labelTransaction, hp]
    have hexec := exec_label_answered hl hb
    rw [labelDone_cfgMmRd ((filled_pc _ d s).trans hp)] at hexec
    exact hexec
  · have hexec := exec_label_answered (labelTransaction_cfgMmWr hp) hb
    rw [labelDone_cfgMmWr ((filled_pc _ d s).trans hp)] at hexec
    exact hexec

/-- Settles O18: bit 0 chooses the error label; clear, `in_run` says how the session goes on. -/
theorem handshakeSuccess : Obligations.HandshakeSuccess := by
  intro s d hp hb
  have hexec := exec_label_answered (labelTransaction_status (.inr (.inr (.inr hp)))) hb
  rw [labelDone_cfgStMode ((filled_pc _ d s).trans hp), filled_status, statusError_answer] at hexec
  refine ⟨fun he => ?_, fun he hr => ?_, fun he hr => ?_⟩ <;> rw [he] at hexec
  · exact hexec
  · rw [if_neg Bool.false_ne_true, handshakeDone_eq, if_neg (by simp [hr]), List.append_assoc] at hexec
    exact hexec
  · rw [if_neg Bool.false_ne_true, handshakeDone_eq, if_pos (by exact hr)] at hexec
    exact hexec

/-- Where no row's bit is set, the scan finds nothing (R200). -/
theorem scanErrors_noFault {e : Byte} {table : List (Nat × FaultKind)} (h : ∀ row ∈ table, e.getLsbD row.1 = false) :
    scanErrors e table = .noFault := by
  induction table with
  | nil => rfl
  | cons row rest ih =>
    obtain ⟨hrow, hrest⟩ := List.forall_mem_cons.mp h
    rw [scanErrors, hrow, if_neg Bool.false_ne_true, ih hrest]

/-- An error byte without a fault bit decodes to NO_FAULT: the table's rows are bits 0 to 5 (R136). -/
theorem decodeErrorByte_noFault {e : Byte} (h : e.extractLsb' 0 6 = 0#6) : decodeErrorByte e = .noFault := by
  have hrows : ∀ row ∈ errorTable, row.1 < 6 := by decide
  refine scanErrors_noFault fun row hrow => ?_
  simpa [BitVec.getLsbD_extractLsb', hrows row hrow] using congrArg (BitVec.getLsbD · row.1) h

/-- Settles O19: an answered error byte is reported before the fault, and `BusError` is BUS_ERROR. -/
theorem handshakeErrorPath : Obligations.HandshakeErrorPath := by
  refine ⟨fun s d f hb h => ?_, fun _ => decodeErrorByte_noFault, fun s d hb hp => ?_⟩
  · obtain ⟨hl, hh⟩ := labelTransaction_error (h.imp And.left (Or.imp And.left And.left))
    have hexec := exec_label_answered hl hb
    rw [labelDone_error (by simpa using h), filled_errorId, errReport_inHandshake (by exact hh),
      List.append_assoc] at hexec
    exact hexec
  · obtain ⟨-, hh⟩ := labelTransaction_error hp
    have hexec := exec_busError (i := .readByte Config.errorId) rfl hb
    rw [sessionFault_inHandshake (by exact hh), State.completeBus_events, List.append_assoc] at hexec
    exact hexec

/-! CONFIGURE against its pseudocode (R122). -/

/-- What is left of the pseudocode at the label of `s`, with the words issued so far. -/
def State.specRest (s : State) (issued : List Word) (answers : List BusAnswer) : Option (SessionFault × List Word) :=
  match s.pc with
  | .cfgHwid => specConfigure answers
  | .cfgStBoot => specStep2 issued answers
  | .cfgErrBoot => specErrReport issued .startupError answers
  | .cfgStValid => specStep3 issued answers
  | .cfgAppstart => specStep4 issued answers
  | .cfgStApp => specStep5 issued answers
  | .cfgErrApp => specErrReport issued .appStartError answers
  | .cfgMmRd => specStep6 issued answers
  | .cfgMmWr => specStep6Write issued s.mm answers
  | .cfgStMode => specStep7 issued answers
  | .cfgErrMode => specErrReport issued .driveModeError answers
  | .idle | .openBus | .sdmRd | .sdmWr | .blRd | .pollSt | .pollData | .pollErr | .runChkPre | .sleep
  | .runChkHead => none

/-- The pseudocode does not end while an answer is awaited. -/
theorem specRest_nil (s : State) (issued : List Word) : s.specRest issued [] = none := by
  unfold State.specRest
  split <;> rfl

/-- How a label of the handshake goes on from `v`, in which its transaction is recorded and latched, and what the
pseudocode gives for it: the next step of the handshake, the end in a session fault, the end in success. -/
inductive State.HandshakeMoves (v : State) (issued : List Word) (answers : List BusAnswer) :
    State → Option (SessionFault × List Word) → Prop where
  | onward {l : Label} (hl : l.inHandshake = true) (hne : l ≠ .cfgHwid) :
      v.HandshakeMoves issued answers (v.goto l) ((v.goto l).specRest issued answers)
  | fails {f : SessionFault} (hf : f ≠ .none) :
      v.HandshakeMoves issued answers (v.sessionFault f) (some (f, issued))
  | reports {f : SessionFault} (hf : f ≠ .none) :
      v.HandshakeMoves issued answers (v.errReport f) (some (f, issued))
  | succeeds : v.HandshakeMoves issued answers v.handshakeDone (some (.none, issued))

/-- `BusError` ends the pseudocode at every step, with the word of that step issued (R221). -/
theorem specRest_busError {s : State} {w : Word} {issued : List Word} (hh : s.pc.inHandshake = true)
    (hw : s.requestWord = some w) (hstart : s.pc = .cfgHwid → issued = []) (d : Word) (rest : List BusAnswer) :
    s.specRest issued (⟨true, d⟩ :: rest) = some (.busError, issued ++ [w]) := by
  cases hp : s.pc with
  | cfgHwid =>
    simp only [State.requestWord, hp] at hw
    cases hw
    rw [hstart hp]
    simp only [State.specRest, hp]
    rfl
  | cfgStBoot | cfgErrBoot | cfgStValid | cfgAppstart | cfgStApp | cfgErrApp | cfgMmRd | cfgMmWr | cfgStMode
  | cfgErrMode =>
    simp only [State.requestWord, hp] at hw
    cases hw
    simp only [State.specRest, hp]
    rfl
  | idle | openBus | sdmRd | sdmWr | blRd | pollSt | pollData | pollErr | runChkPre | sleep | runChkHead =>
    rw [hp] at hh
    cases hh

/-- The commuting step: an answered label of the handshake goes on as the pseudocode does. -/
theorem labelDone_follows_specRest {s : State} {i : Instr} {issued : List Word} (hh : s.pc.inHandshake = true)
    (hl : s.labelTransaction = some i) (hstart : s.pc = .cfgHwid → issued = []) (d : Word) (rest : List BusAnswer) :
    (s.filled i d).HandshakeMoves (issued ++ [requestOf i]) rest (s.filled i d).labelDone
      (s.specRest issued (⟨false, d⟩ :: rest)) := by
  have hpc : (s.filled i d).pc = s.pc := filled_pc i d s
  cases hp : s.pc with
  | cfgHwid =>
    simp only [State.labelTransaction, hp] at hl
    cases hl
    rw [labelDone_cfgHwid (hpc.trans hp), hstart hp]
    simp only [State.specRest, hp, specConfigure, Bool.false_eq_true, if_false]
    by_cases hid : d.extractLsb' 24 8 = 0x81#8
    · rw [if_pos (by exact hid), if_pos hid]
      exact .onward rfl (by decide)
    · rw [if_neg (by exact hid), if_neg hid]
      exact .fails (by decide)
  | cfgStBoot | cfgStApp =>
    simp only [State.labelTransaction, hp] at hl
    cases hl
    simp only [labelDone_cfgStBoot, labelDone_cfgStApp, hp, filled_status, statusError_answer, State.specRest,
      specStep2, specStep5, Bool.false_eq_true, if_false]
    split <;> exact .onward rfl (by decide)
  | cfgStValid =>
    simp only [State.labelTransaction, hp] at hl
    cases hl
    simp only [labelDone_cfgStValid, hp, filled_status, statusAppValid_answer, State.specRest, specStep3,
      Bool.false_eq_true, if_false]
    split
    · exact .onward rfl (by decide)
    · exact .fails (by decide)
  | cfgAppstart | cfgMmRd =>
    simp only [State.labelTransaction, hp] at hl
    cases hl
    simp only [labelDone_cfgAppstart, labelDone_cfgMmRd, hpc, hp, State.specRest]
    exact .onward rfl (by decide)
  | cfgMmWr =>
    rw [labelTransaction_cfgMmWr hp] at hl
    cases hl
    simp only [labelDone_cfgMmWr, hpc, hp, State.specRest]
    exact .onward rfl (by decide)
  | cfgStMode =>
    simp only [State.labelTransaction, hp] at hl
    cases hl
    simp only [labelDone_cfgStMode, hp, filled_status, statusError_answer, State.specRest, specStep7,
      Bool.false_eq_true, if_false]
    split
    · exact .onward rfl (by decide)
    · exact .succeeds
  | cfgErrBoot | cfgErrApp | cfgErrMode =>
    simp only [State.labelTransaction, hp] at hl
    cases hl
    simp only [State.labelDone, hpc, hp, State.specRest]
    exact .reports (by decide)
  | idle | openBus | sdmRd | sdmWr | blRd | pollSt | pollData | pollErr | runChkPre | sleep | runChkHead =>
    rw [hp] at hh
    cases hh

/-! The run of CONFIGURE, a tick a transaction (R18, R122). -/

/-- What CONFIGURE leaves as it was in `s`, and the words it has issued since. -/
def State.HasIssued (s : State) (words : List Word) (t : State) : Prop :=
  (transactionsOf t.events).map Prod.fst = (transactionsOf s.events).map Prod.fst ++ words ∧
    t.readingValid = s.readingValid ∧ t.readingCo2 = s.readingCo2 ∧ t.readingTvoc = s.readingTvoc

/-- `t` is in the handshake that CONFIGURE began in `s`, with these words issued. -/
structure State.Configuring (s : State) (issued : List Word) (t : State) : Prop where
  label : t.pc.inHandshake = true
  breq : t.breq = none
  inRun : t.inRun = false
  faultCode : t.faultCode = .none
  words : s.HasIssued issued t
  responses : responsesOf t.events = responsesOf s.events

/-- `t` is at the start of a tick of that handshake, with these answers to come. -/
structure State.Awaits (s : State) (issued : List Word) (answers : List BusAnswer) (t : State) : Prop
    extends s.Configuring issued t where
  start : t.pc = .cfgHwid → issued = []
  pins : t.pins = (answers.map Inputs.answering).headD Inputs.quiet
  env : t.env = (answers.map Inputs.answering).tail

/-- `t` is the end, in session fault `f` or in success, of the handshake that CONFIGURE began in `s`. -/
structure State.Configured (s : State) (f : SessionFault) (words : List Word) (t : State) : Prop where
  pc : t.pc = .idle
  faultCode : t.faultCode = f
  topState : t.topState = if f = .none then .polling else .faulted
  words : s.HasIssued words t
  responses : responsesOf t.events = responsesOf s.events ++
    [if f = .none then ⟨.ok, 0x0000#16⟩ else ⟨.fault, f.code.setWidth 16⟩]

theorem State.HasIssued.endStep {s t : State} {words : List Word} (h : s.HasIssued words t) :
    s.HasIssued words t.endStep := by
  simpa [State.HasIssued] using h

/-- One transaction more, which leaves the reading store. -/
theorem State.HasIssued.append {s t u : State} {words : List Word} {w : Word} {r : BusResult} (h : s.HasIssued words t)
    (hu : transactionsOf u.events = transactionsOf t.events ++ [(w, r)])
    (hs : u.readingValid = t.readingValid ∧ u.readingCo2 = t.readingCo2 ∧ u.readingTvoc = t.readingTvoc) :
    s.HasIssued (words ++ [w]) u := by
  obtain ⟨hw, hread⟩ := h
  obtain ⟨hv, hc, ht⟩ := hs
  refine ⟨?_, by rwa [hv, hc, ht]⟩
  rw [hu, List.map_append, hw, List.append_assoc]
  rfl

theorem State.Configured.endStep {s t : State} {f : SessionFault} {words : List Word} (h : s.Configured f words t) :
    s.Configured f words t.endStep where
  pc := by simpa using h.pc
  faultCode := by simpa using h.faultCode
  topState := by simpa using h.topState
  words := h.words.endStep
  responses := by simpa using h.responses

/-- A transaction recorded. -/
theorem State.Configuring.completeBus {s t : State} {issued : List Word} (h : s.Configuring issued t) (w : Word)
    (r : BusResult) : s.Configuring (issued ++ [w]) (t.completeBus w r) :=
  ⟨h.label, rfl, h.inRun, h.faultCode, h.words.append (transactionsOf_append _ _) ⟨rfl, rfl, rfl⟩,
    by simpa using h.responses⟩

/-- A transaction recorded and latched. -/
theorem State.Configuring.filled {s t : State} {issued : List Word} (h : s.Configuring issued t) (i : Instr)
    (d : Word) :
    s.Configuring (issued ++ [requestOf i]) (t.filled i d) := by
  have hc := h.completeBus (requestOf i) (resultOf i d)
  obtain ⟨_, _, _, _, _, _, e⟩ := latched_frame i d (t.completeBus (requestOf i) (resultOf i d))
  rw [State.filled, e]
  exact ⟨hc.label, hc.breq, hc.inRun, hc.faultCode, hc.words, hc.responses⟩

theorem filled_env (i : Instr) (d : Word) (s : State) : (s.filled i d).env = s.env := by
  obtain ⟨_, _, _, _, _, _, e⟩ := latched_frame i d (s.completeBus (requestOf i) (resultOf i d))
  rw [State.filled, e, State.completeBus_env]

/-- The next tick of the handshake, at another label than the first. -/
theorem State.Configuring.awaits_goto {s v : State} {issued : List Word} {answers : List BusAnswer} {l : Label}
    (h : s.Configuring issued v) (henv : v.env = answers.map Inputs.answering) (hl : l.inHandshake = true)
    (hne : l ≠ .cfgHwid) : s.Awaits issued answers (v.goto l).endStep := by
  rw [endStep_eq]
  exact ⟨⟨hl, h.breq, h.inRun, h.faultCode, h.words, h.responses⟩, fun hp => absurd hp hne, by rw [← henv]; rfl,
    by rw [← henv]; rfl⟩

/-- A session fault is the end of CONFIGURE. -/
theorem State.Configuring.sessionFault {s v : State} {issued : List Word} (h : s.Configuring issued v)
    {f : SessionFault} (hf : f ≠ .none) : s.Configured f issued (v.sessionFault f) where
  pc := sessionFault_pc v f
  faultCode := sessionFault_faultCode v f
  topState := by rw [if_neg hf, sessionFault_topState]
  words := by simpa [State.HasIssued] using h.words
  responses := by
    rw [sessionFault_inHandshake h.label, responsesOf_append, h.responses, if_neg hf]
    rfl

/-- A report is no response. -/
theorem State.Configuring.emit {s v : State} {issued : List Word} (h : s.Configuring issued v) (r : Report) :
    s.Configuring issued (v.emit r) :=
  ⟨h.label, h.breq, h.inRun, h.faultCode, by simpa [State.HasIssued] using h.words, by simpa using h.responses⟩

/-- The success of the handshake is the end of CONFIGURE. -/
theorem State.Configuring.handshakeDone {s v : State} {issued : List Word} (h : s.Configuring issued v) :
    s.Configured .none issued v.handshakeDone := by
  rw [handshakeDone_eq, if_neg (by simp [h.inRun])]
  exact ⟨rfl, h.faultCode, rfl, by simpa [State.HasIssued] using h.words, by simp [h.responses]⟩

/-- The words of the pseudocode do not depend on the inputs. -/
theorem specRest_endStep (s : State) : s.endStep.specRest = s.specRest := by
  rw [endStep_eq]
  rfl

/-- Each way a label goes on ends CONFIGURE or awaits the next answer. -/
theorem State.Configuring.moves {s v u : State} {issued : List Word} {answers : List BusAnswer}
    {r : Option (SessionFault × List Word)} (h : s.Configuring issued v) (henv : v.env = answers.map Inputs.answering)
    (hm : v.HandshakeMoves issued answers u r) :
    (∃ f, s.Configured f issued u.endStep ∧ r = some (f, issued)) ∨
      (s.Awaits issued answers u.endStep ∧ r = u.endStep.specRest issued answers) := by
  cases hm with
  | onward hl hne => exact .inr ⟨h.awaits_goto henv hl hne, by rw [specRest_endStep]⟩
  | fails hf => exact .inl ⟨_, (h.sessionFault hf).endStep, rfl⟩
  | reports hf => exact .inl ⟨_, ((h.emit _).sessionFault hf).endStep, rfl⟩
  | succeeds => exact .inl ⟨_, h.handshakeDone.endStep, rfl⟩

/-- Every label of the handshake issues a transaction (R22). -/
theorem labelTransaction_inHandshake {s : State} (h : s.pc.inHandshake = true) : ∃ i, s.labelTransaction = some i := by
  cases hl : s.labelTransaction with
  | some i => exact ⟨i, rfl⟩
  | none => rcases labelTransaction_none hl with hp | hp | hp | hp <;> rw [hp] at h <;> cases h

/-- One tick of the handshake: with its answer CONFIGURE ends, or awaits the next answer, as the pseudocode does. -/
theorem step_awaits {s t : State} {issued : List Word} {a : BusAnswer} {rest : List BusAnswer}
    (h : s.Awaits issued (a :: rest) t) :
    ∃ u w, step t = .next u ∧
      ((∃ f, s.Configured f (issued ++ [w]) u ∧ t.specRest issued (a :: rest) = some (f, issued ++ [w])) ∨
        (s.Awaits (issued ++ [w]) rest u ∧ t.specRest issued (a :: rest) = u.specRest (issued ++ [w]) rest)) := by
  have hpins : t.pins = Inputs.answering a := h.pins
  have hbegin : s.Configuring issued t.beginStep := ⟨h.label, h.breq, h.inRun, h.faultCode, h.words, h.responses⟩
  obtain ⟨i, hl⟩ := labelTransaction_inHandshake h.label
  rcases step_at_label (by rw [hpins]; rfl) (busFits_of_none h.breq) hl with ⟨hb, -⟩ | ⟨d, hb, e⟩ | ⟨d, hb, e⟩ <;>
    rw [hpins] at hb <;> cases hb <;> refine ⟨_, requestOf i, e, ?_⟩
  · have hword : t.requestWord = some (requestOf i) := by rw [requestWord_eq, hl]; rfl
    exact .inl ⟨.busError, ((hbegin.completeBus _ _).sessionFault (by decide)).endStep,
      specRest_busError h.label hword h.start d rest⟩
  · have henv : (t.beginStep.filled i d).env = rest.map Inputs.answering := by rw [filled_env]; exact h.env
    exact (hbegin.filled i d).moves henv (labelDone_follows_specRest (s := t.beginStep) h.label hl h.start d rest)

/-- The ticks of the handshake end as the pseudocode does, one for each word it issues. -/
theorem runTicks_awaits {s t : State} {issued words : List Word} {answers : List BusAnswer} {f : SessionFault}
    (h : s.Awaits issued answers t) (hspec : t.specRest issued answers = some (f, words)) :
    ∃ n u, words.length = issued.length + n ∧ runTicks n t = .next u ∧ s.Configured f words u := by
  induction answers generalizing issued t with
  | nil => cases (specRest_nil t issued).symm.trans hspec
  | cons a rest ih =>
    obtain ⟨v, w, hstep, ⟨f', hend, hr⟩ | ⟨hnext, hr⟩⟩ := step_awaits h
    · cases hr.symm.trans hspec
      exact ⟨1, v, List.length_append, runTicks_one hstep, hend⟩
    · obtain ⟨n, u, hn, hrun, hend⟩ := ih hnext (hr.symm.trans hspec)
      refine ⟨n + 1, u, ?_, (runTicks_succ n hstep).trans hrun, hend⟩
      rw [hn, List.length_append, List.length_singleton, Nat.add_assoc, Nat.add_comm 1 n]

/-- The acceptance of CONFIGURE, a tick without transaction (R121). -/
theorem step_configure {s : State} (answers : List BusAnswer) (hs : s.accepting) (hu : s.topState = .uninitialized)
    (hf : s.faultCode = .none) (hb : s.breq = none) :
    ∃ t, step (s.withInputs (Inputs.presenting 0x0100#16 :: answers.map Inputs.answering)) = .next t ∧
      s.Awaits [] answers t ∧ t.pc = .cfgHwid := by
  obtain ⟨-, hexec⟩ := configureEntersHandshake
  have hfetch : (s.withInputs (Inputs.presenting 0x0100#16 :: answers.map Inputs.answering)).fetch =
      .instr .configure := by
    obtain ⟨hp, -⟩ := hs
    rw [fetch_idle (by exact hb) (by exact hp)]
    rfl
  refine ⟨_, by rw [step_run _ rfl, hfetch, runFetched, (hexec _ (by exact hs) (by exact hu)).1, mapNext], ?_,
    endStep_pc _⟩
  rw [endStep_eq]
  exact ⟨⟨rfl, hb, rfl, hf, ⟨(List.append_nil _).symm, rfl, rfl, rfl⟩, rfl⟩, fun _ => rfl, rfl, rfl⟩

/-- Settles O20, tick by tick: after the acceptance, each answer takes the machine and the pseudocode one step on. -/
theorem configureRefinesItsPseudocode : Obligations.ConfigureRefinesItsPseudocode := by
  intro s answers f words hs hu hf _ hb hspec
  obtain ⟨t, hstep, hawaits, hp⟩ := step_configure answers hs hu hf hb
  have hrest : t.specRest [] answers = some (f, words) := by
    simp only [State.specRest, hp]
    exact hspec
  obtain ⟨n, u, hn, hrun, hend⟩ := runTicks_awaits hawaits hrest
  obtain ⟨hwords, hreadings⟩ := hend.words
  rw [hn, List.length_nil, Nat.zero_add, runTicks_succ n hstep]
  exact ⟨u, hrun, hend.pc, hend.faultCode, hend.topState, hwords, hend.responses, hreadings⟩

end Sys2Proof.Machine

/-! PROOFS. Drive mode and baseline (41_mode_baseline.md): the acceptance in POLLING, the drive-mode byte, and the steps
of the three labels. -/

namespace Sys2Proof.Machine

/-! Acceptance in POLLING (R107). -/

/-- The command registers take the two bytes of the word (R25, R100). -/
@[simp] theorem State.latchCommand_commandWord (op arg : Byte) (s : State) :
    s.latchCommand (commandWord op arg) = { s with curOp := op, curArg := arg } := by
  rw [State.latchCommand, opField_commandWord, argField_commandWord]

/-- Settles O7: all three commands are legal in POLLING, and each begins at its first label. -/
theorem pollingCommandsStart : Obligations.PollingCommandsStart := by
  intro s hs ht
  have hlegal : legalInPolling s.topState = true := by rw [ht]; rfl
  refine ⟨fun m => ?_, exec_accepts (i := .getBaseline) rfl hs hlegal, exec_accepts (i := .pollOnce) rfl hs hlegal⟩
  rw [exec_accepts (i := .setDriveMode m) rfl hs hlegal, State.latchCommand_commandWord]
  rfl

/-! The clamp (R150, R152). -/

theorem clampMode_of_le {m : Byte} (h : m.toNat ≤ 4) : clampMode m = m := if_pos h

theorem clampMode_of_gt {m : Byte} (h : 5 ≤ m.toNat) : clampMode m = 0x04#8 := if_neg (Nat.not_le_of_lt h)

/-- The operand reaches the byte through the clamp only, so every mode above 4 gives the byte of mode 4. -/
theorem driveModeByte_of_gt {m : Byte} (h : 5 ≤ m.toNat) (mm : Byte) :
    driveModeByte mm m = driveModeByte mm 0x04#8 := by
  rw [driveModeByte, driveModeByte, clampMode_of_gt h, clampMode_of_le (by decide)]

/-! What the three labels issue and how they go on (R151, R155). -/

section
variable {s : State}

theorem labelTransaction_sdmRd (hp : s.pc = .sdmRd) : s.labelTransaction = some (.readByte Config.measMode) := by
  simp only [State.labelTransaction, hp]

theorem labelTransaction_sdmWr (hp : s.pc = .sdmWr) :
    s.labelTransaction = some (.writeByte Config.measMode (driveModeByte s.mm s.curArg)) := by
  simp only [State.labelTransaction, hp, State.sdmValue]

theorem labelTransaction_blRd (hp : s.pc = .blRd) :
    s.labelTransaction = some (.readBlock Config.baseline Config.baselineLen) := by
  simp only [State.labelTransaction, hp]

theorem labelDone_sdmRd (hp : s.pc = .sdmRd) : s.labelDone = s.goto .sdmWr := by
  simp only [State.labelDone, hp, State.sdmRdDone]

theorem labelDone_sdmWr (hp : s.pc = .sdmWr) :
    s.labelDone = (s.respond .ok (zext16 (driveModeByte s.mm s.curArg))).goto .idle := by
  simp only [State.labelDone, hp, State.sdmWrDone, State.sdmValue]

theorem labelDone_blRd (hp : s.pc = .blRd) :
    s.labelDone = (s.respond .ok (joinBytes s.blk.b0 s.blk.b1)).goto .idle := by
  simp only [State.labelDone, hp, State.blRdDone]

end

section
variable (d : Word) (s : State)

theorem filled_measMode : s.filled (.readByte Config.measMode) d = { s with
    mm := d.extractLsb' 24 8, breq := none,
    events := s.events ++ [.bus 0x10010000#32 (.byte (d.extractLsb' 24 8))] } := rfl

theorem filled_write_measMode (v : Byte) : s.filled (.writeByte Config.measMode v) d = { s with
    breq := none, events := s.events ++ [.bus (0x300100#24 ++ v) .done] } := rfl

/-- Two bytes are asked for, so `b2` and `b3` of the latch stay (R115). -/
theorem filled_baseline : s.filled (.readBlock Config.baseline Config.baselineLen) d = { s with
    blk := { s.blk with b0 := d.extractLsb' 24 8, b1 := d.extractLsb' 16 8 }, breq := none,
    events := s.events ++ [.bus 0x20110200#32 (.block [d.extractLsb' 24 8, d.extractLsb' 16 8])] } := rfl

/-- The first two bytes of an answer, joined big-endian, are its upper half (R69, R115). -/
theorem joinBytes_answer : joinBytes (d.extractLsb' 24 8) (d.extractLsb' 16 8) = d.extractLsb' 16 16 :=
  BitVec.extractLsb'_append_extractLsb'_eq_extractLsb' (by decide)

end

/-! The single steps. -/

/-- Settles O21: the read goes on to the write, and the byte written is the response. -/
theorem setDriveModeReadsThenWrites : Obligations.SetDriveModeReadsThenWrites := by
  refine fun s d hb => ⟨fun hp => ⟨labelTransaction_sdmRd hp, ?_⟩, fun v hv hp => ?_⟩
  · have hexec := exec_label_answered (labelTransaction_sdmRd hp) hb
    rw [labelDone_sdmRd ((filled_pc _ d s).trans hp), filled_measMode] at hexec
    exact hexec
  · obtain rfl : v = driveModeByte s.mm s.curArg := hv.trans (driveModeByte_eq s.mm s.curArg).symm
    have hexec := exec_label_answered (labelTransaction_sdmWr hp) hb
    rw [labelDone_sdmWr ((filled_pc _ d s).trans hp), filled_write_measMode, State.respond, List.append_assoc] at hexec
    exact ⟨labelTransaction_sdmWr hp, hexec⟩

/-- Settles O22: SDM_RD's transaction does not see the operand, and SDM_WR's sees it through the drive-mode byte. -/
theorem driveModeClamps : Obligations.DriveModeClamps := by
  intro s m hm hp
  refine ⟨?_, driveModeByte_of_gt hm s.mm, fun _ => clampMode_of_le⟩
  rcases hp with hp | hp
  · rw [labelTransaction_sdmRd (by exact hp), labelTransaction_sdmRd (by exact hp)]
  · rw [labelTransaction_sdmWr (by exact hp), labelTransaction_sdmWr (by exact hp), driveModeByte_of_gt hm]

/-- Settles O23: the field holds the clamped mode, which is the mode itself up to 4. -/
theorem driveModeKeepsOtherBits : Obligations.DriveModeKeepsOtherBits := by
  intro mm m hm
  have hfield := driveModeByte_field mm m
  rw [clampMode_of_le hm] at hfield
  exact ⟨hfield, driveModeByte_bit7 mm m, driveModeByte_low mm m⟩

/-- Settles O25: the two bytes latched are the ones joined for the response. -/
theorem baselineIsTheResponse : Obligations.BaselineIsTheResponse := by
  intro s d hp hb
  refine ⟨labelTransaction_blRd hp, ?_⟩
  have hexec := exec_label_answered (labelTransaction_blRd hp) hb
  rw [labelDone_blRd ((filled_pc _ d s).trans hp), filled_baseline, joinBytes_answer, State.respond,
    List.append_assoc] at hexec
  exact hexec

end Sys2Proof.Machine

/-! PROOFS. Polling (42_polling.md): the acceptance of RUN, the steps of an iteration, RUN's checkpoints and sleep,
cancellation at IDLE, and a run of two iterations. -/

namespace Sys2Proof.Machine

/-- Settles O6: RUN is legal in both session states, and the session state says where it begins. -/
theorem runSkipsHandshakeInPolling : Obligations.RunSkipsHandshakeInPolling := by
  obtain ⟨-, hhandshake⟩ := configureEntersHandshake
  refine ⟨rfl, fun s hs => ⟨fun hu => (hhandshake s hs hu).2, fun ht => ?_⟩⟩
  have hne : s.topState ≠ .uninitialized := by simp [ht]
  rw [exec_accepts (i := .run) rfl hs (by rw [ht]; rfl), commandBody, if_neg (by exact hne),
    State.latchCommand_commandWord]

/-! What the three labels of an iteration issue and how they go on (R171 to R176). -/

/-- An iteration ends at the checkpoint of RUN, or with the response of POLL_ONCE (R176). -/
theorem endIteration_eq (s : State) (branch : Half) : s.endIteration branch = { s with
    pc := if s.inRun then .runChkPre else .idle
    rsp := if s.inRun then s.rsp else some ⟨.ok, branch⟩
    events := s.events ++ if s.inRun then [] else [.response ⟨.ok, branch⟩] } := by
  unfold State.endIteration
  split
  · rw [List.append_nil]; rfl
  · rfl

section
variable {s : State}

theorem labelTransaction_pollSt (hp : s.pc = .pollSt) : s.labelTransaction = some (.readByte Config.status) := by
  simp only [State.labelTransaction, hp]

theorem labelTransaction_pollData (hp : s.pc = .pollData) :
    s.labelTransaction = some (.readBlock Config.algResultData Config.algBlockLen) := by
  simp only [State.labelTransaction, hp]

theorem labelTransaction_pollErr (hp : s.pc = .pollErr) : s.labelTransaction = some (.readByte Config.errorId) := by
  simp only [State.labelTransaction, hp]

theorem labelDone_pollSt (hp : s.pc = .pollSt) :
    s.labelDone = if statusDataReady s.st then s.goto .pollData
      else if statusError s.st then s.goto .pollErr
      else s.endIteration 0x0000#16 := by
  simp only [State.labelDone, hp, State.pollStDone]

theorem labelDone_pollData_stores (hp : s.pc = .pollData) :
    s.labelDone = ((s.storeReading (joinBytes s.blk.b0 s.blk.b1) (joinBytes s.blk.b2 s.blk.b3)).emit
      (.reading (joinBytes s.blk.b0 s.blk.b1) (joinBytes s.blk.b2 s.blk.b3))).endIteration 0x0001#16 := by
  simp only [State.labelDone, hp, State.pollDataDone]

theorem labelDone_pollErr (hp : s.pc = .pollErr) :
    s.labelDone = (s.emit (.fault (decodeErrorByte s.er))).endIteration 0x0002#16 := by
  simp only [State.labelDone, hp, State.pollErrDone]

end

/-- Bit 3 of the status byte is bit 27 of the answer (R81, R115). -/
theorem statusDataReady_answer (d : Word) : statusDataReady (d.extractLsb' 24 8) = d.getLsbD 27 := by
  simp [statusDataReady]

/-- The error bits 5:0 of the byte read are bits 29:24 of the answer (R82, R115). -/
theorem errorBits_answer (d : Word) : (d.extractLsb' 24 8).extractLsb' 0 6 = d.extractLsb' 24 6 := by
  ext i hi
  have hi' : i < 8 := by omega
  simp [hi']

/-- The block is the whole latch (R32, R171). -/
theorem filled_algResultData (d : Word) (s : State) :
    s.filled (.readBlock Config.algResultData Config.algBlockLen) d = { s with
      blk := ⟨d.extractLsb' 24 8, d.extractLsb' 16 8, d.extractLsb' 8 8, d.extractLsb' 0 8⟩, breq := none,
      events := s.events ++ [.bus 0x20020400#32
        (.block [d.extractLsb' 24 8, d.extractLsb' 16 8, d.extractLsb' 8 8, d.extractLsb' 0 8])] } := rfl

/-- The last two bytes of an answer, joined big-endian, are its lower half (R69, R115). -/
theorem joinBytes_answer_low (d : Word) : joinBytes (d.extractLsb' 8 8) (d.extractLsb' 0 8) = d.extractLsb' 0 16 :=
  BitVec.extractLsb'_append_extractLsb'_eq_extractLsb' (by decide)

/-! The single steps of an iteration. -/

/-- Settles O26: bit 3 is looked at first, bit 0 only where it is clear, and `in_run` only where both are. -/
theorem dataReadyBeforeError : Obligations.DataReadyBeforeError := by
  intro s d hp hb
  have hexec := exec_label_answered (labelTransaction_pollSt hp) hb
  rw [labelDone_pollSt ((filled_pc _ d s).trans hp), filled_status, statusDataReady_answer, statusError_answer]
    at hexec
  refine ⟨fun hd => ?_, fun hd he => ?_, fun hd he hr => ?_, fun hd he hr => ?_⟩ <;> rw [hd] at hexec
  · exact hexec
  · rw [he] at hexec
    exact hexec
  · rw [he, if_neg Bool.false_ne_true, if_neg Bool.false_ne_true, State.endIteration, if_pos (by exact hr)] at hexec
    exact hexec
  · rw [he, if_neg Bool.false_ne_true, if_neg Bool.false_ne_true, State.endIteration, if_neg (by simp [hr]),
      State.respond, List.append_assoc] at hexec
    exact hexec

/-- Settles O27: the fields stored and reported are the halves of the block latched; `BusError` is a session fault,
which leaves the store. -/
theorem dataBranchStoresTheReading : Obligations.DataBranchStoresTheReading := by
  refine fun s d hp => ⟨?_, fun hb => ⟨_, exec_busError rfl hb, ?_⟩⟩
  · rintro hb run rfl
    have hexec := exec_label_answered (labelTransaction_pollData hp) hb
    rw [labelDone_pollData_stores ((filled_pc _ d s).trans hp), filled_algResultData, joinBytes_answer,
      joinBytes_answer_low, endIteration_eq, State.emit_events, State.storeReading_events,
      List.append_assoc s.events] at hexec
    exact hexec
  · simp

/-- Settles O28: the byte latched is reported, and the end of the iteration does the rest. -/
theorem errorBranchOnlyReports : Obligations.ErrorBranchOnlyReports := by
  rintro s d hp hb run rfl
  constructor
  · have hexec := exec_label_answered (labelTransaction_pollErr hp) hb
    rw [labelDone_pollErr ((filled_pc _ d s).trans hp), filled_errorId, endIteration_eq, State.emit_events,
      List.append_assoc s.events] at hexec
    exact hexec
  · exact fun h => decodeErrorByte_noFault ((errorBits_answer d).trans h)

/-! RUN's checkpoints and its sleep (R180, R181). -/

@[simp] theorem endStep_inRun (s : State) : s.endStep.inRun = s.inRun := by rw [endStep_eq]

/-- A checkpoint with nothing outstanding (R181). -/
theorem step_checkpoint {s : State} {l : Label} (hr : s.pins.rstN = true) (hb : s.breq = none)
    (hp : (s.pc = .runChkHead ∧ l = .pollSt) ∨ (s.pc = .runChkPre ∧ l = .sleep)) :
    step s = .next (s.beginStep.checkpoint l).endStep := by
  rw [step_at_run_label hr hb (by tauto)]
  rcases hp with ⟨hp, rfl⟩ | ⟨hp, rfl⟩ <;> simp only [State.internalStep, State.beginStep_pc, hp]

/-- A sleep with nothing outstanding (R180). -/
theorem step_sleep {s : State} (hr : s.pins.rstN = true) (hb : s.breq = none) (hp : s.pc = .sleep) :
    step s = .next s.beginStep.sleepTick.endStep := by
  rw [step_at_run_label hr hb (.inr (.inl hp))]
  simp only [State.internalStep, State.beginStep_pc, hp]

/-- Every label of an iteration issues a transaction (R22). -/
theorem labelTransaction_inIteration {s : State} (h : s.pc.inIteration = true) : ∃ i, s.labelTransaction = some i := by
  cases hl : s.labelTransaction with
  | some i => exact ⟨i, rfl⟩
  | none => rcases labelTransaction_none hl with hp | hp | hp | hp <;> rw [hp] at h <;> cases h

/-- Whatever is outstanding, a label that issues a transaction fetches from the bus port. -/
theorem fetch_bus_of_labelTransaction {s : State} {i : Instr} (hl : s.labelTransaction = some i) :
    (∃ j, s.fetch = .instr j ∧ isHostCommand j = false) ∨ ∃ w, s.fetch = .reservedBus w := by
  cases hb : s.breq with
  | none => exact .inl ⟨i, fetch_label hb hl, labelTransaction_bus hl⟩
  | some w =>
    cases hd : decodeBus w with
    | ok j => exact .inl ⟨j, by simp [State.fetch, hb, fetchBus, hd], decodeBus_bus hd⟩
    | error e => exact .inr ⟨w, by simp [State.fetch, hb, fetchBus, hd]⟩

/-- No bus transaction reaches STOPPED: it faults the session, ends the handshake, or leaves `top_state`. -/
theorem exec_bus_not_stopped {i : Instr} {s t : State} (hi : isHostCommand i = false) (h : exec i s = .next t)
    (hs : s.topState ≠ .stopped) : t.topState ≠ .stopped := by
  rcases exec_bus_cases hi h with rfl | rfl | ⟨d, rfl⟩
  · exact hs
  · simp
  · unfold resumeAfter
    split
    · rcases labelDone_session ((s.completeBus (requestOf i) (resultOf i d)).latched i d) with
        ⟨ht, -⟩ | ⟨-, -, -, ht⟩ | ⟨-, ht⟩ <;> simp [ht, hs]
    · simpa using hs

/-- A step at a label that issues a transaction does not reach STOPPED. -/
theorem step_not_stopped {s t : State} {i : Instr} (hl : s.labelTransaction = some i) (hs : s.topState ≠ .stopped)
    (h : step s = .next t) : t.topState ≠ .stopped := by
  cases hr : s.pins.rstN with
  | false =>
    rw [Host.Outcome.next.inj (h.symm.trans (tick_reset s hr)), nextPins_eq]
    exact (by decide : State.reset.topState ≠ .stopped)
  | true =>
    rw [step_run s hr] at h
    obtain ⟨u, hu, rfl⟩ := (mapNext_next _ _ _).mp h
    rw [endStep_topState]
    rcases fetch_bus_of_labelTransaction hl with ⟨j, hf, hj⟩ | ⟨w, hf⟩ <;> rw [hf] at hu
    · exact exec_bus_not_stopped (s := s.beginStep) hj hu hs
    · cases hu

/-- Settles O29: the checkpoints test the latch, and no label that issues a transaction does. -/
theorem checkpointsTakeCancellation : Obligations.CheckpointsTakeCancellation := by
  refine ⟨fun _ _ hr hb hp => step_checkpoint hr hb hp, fun s t hp hs h => ?_⟩
  obtain ⟨i, hl⟩ : ∃ i, s.labelTransaction = some i :=
    hp.elim labelTransaction_inHandshake labelTransaction_inIteration
  exact step_not_stopped hl hs h

/-- Settles O30: the timer's tick latches the cancellation at the latest, and the checkpoint after it takes it. -/
theorem onlyTheTimerEndsASleep : Obligations.OnlyTheTimerEndsASleep := by
  constructor
  · intro s hr hb hp
    rw [step_sleep hr hb hp, State.sleepTick, State.beginStep_pins]
    split
    · rfl
    · rw [← hp]
      rfl
  · intro s hr hb hp ht hc henv
    have hfirst := step_sleep hr hb hp
    rw [State.sleepTick, if_pos (by exact ht)] at hfirst
    have hrst : (s.env.headD Inputs.quiet).rstN = true := by
      cases he : s.env with
      | nil => rfl
      | cons p ps => exact henv p (by simp [he])
    have hsecond := step_checkpoint (s := (s.beginStep.goto .runChkHead).endStep) (l := .pollSt)
      (by rw [endStep_eq]; exact hrst) (by simpa using hb) (.inl ⟨by simp, rfl⟩)
    rw [State.checkpoint, if_pos (by rw [endStep_eq]; exact hc)] at hsecond
    refine ⟨_, (runTicks_succ 1 hfirst).trans (runTicks_one hsecond), ?_⟩
    simp [State.stopRun]

/-! Cancellation at IDLE (R182). -/

/-- The state with another cancellation latch. -/
def State.withCancelReq (b : Bool) (s : State) : State := { s with cancelReq := b }

/-- A command's own effect does not see the cancellation latch. -/
theorem commandBody_withCancelReq (b : Bool) (i : Instr) (s : State) :
    commandBody i (s.withCancelReq b) = (commandBody i s).withCancelReq b := by
  cases i with
  | run =>
    have ht : (s.withCancelReq b).topState = s.topState := rfl
    simp only [commandBody, ht, apply_ite (State.withCancelReq b)]
    rfl
  | configure | setDriveMode | getBaseline | pollOnce | decodeError | openHandle | readByte | readBlock | writeByte
  | writeCommand => rfl

theorem cancelPending_of_faulted {s : State} (ht : s.topState = .faulted) : s.cancelPending = false := by
  simp [State.cancelPending, ht]

/-- In FAULTED an acceptance does not see the cancellation latch (R182, R225). -/
theorem acceptCommand_faulted_withCancelReq {s : State} (ht : s.topState = .faulted) (b : Bool) (w : Half)
    (legal : TopState → Bool) {body : State → State}
    (hbody : ∀ u : State, body (u.withCancelReq b) = (body u).withCancelReq b) :
    acceptCommand w legal body (s.withCancelReq b) = mapNext (State.withCancelReq b) (acceptCommand w legal body s) := by
  have hc : s.cancelPending = false := cancelPending_of_faulted ht
  have hc' : (s.withCancelReq b).cancelPending = false := cancelPending_of_faulted ht
  have hlatch : (s.withCancelReq b).latchCommand w = (s.latchCommand w).withCancelReq b := rfl
  have hpc : (s.withCancelReq b).pc = s.pc := rfl
  have htop : (s.withCancelReq b).topState = s.topState := rfl
  simp only [acceptCommand, hc, hc', hlatch, hpc, htop, hbody, apply_ite (mapNext (State.withCancelReq b))]
  rfl

/-- In FAULTED what a step does with the command port does not depend on the cancellation latch. -/
theorem runFetched_faulted_withCancelReq {s : State} (hp : s.pc = .idle) (hb : s.breq = none)
    (ht : s.topState = .faulted) (b : Bool) :
    runFetched s.fetch (s.beginStep.withCancelReq b) =
      mapNext (State.withCancelReq b) (runFetched s.fetch s.beginStep) := by
  rw [fetch_idle hb hp]
  cases hw : s.pins.cmd with
  | none =>
    have hc : ∀ u : State, u.pc = .idle → u.topState = .faulted → u.internalStep = u := by
      intro u hu htop
      simp [State.internalStep, hu, cancelPending_of_faulted htop]
    simp only [runFetched, hc s.beginStep hp ht, hc (s.beginStep.withCancelReq b) hp ht, mapNext]
  | some w =>
    cases hd : decodeCommand w with
    | error e =>
      simp only [fetchCommand, hd]
      exact acceptCommand_faulted_withCancelReq (s := s.beginStep) ht b w (fun _ => false) (body := fun u => u) fun _ => rfl
    | ok i =>
      simp only [fetchCommand, hd, runFetched, exec_command (encode_of_decodeCommand hd)]
      exact acceptCommand_faulted_withCancelReq (s := s.beginStep) ht b w _ (commandBody_withCancelReq b i)

/-- In FAULTED a step keeps the latch, and does nothing else with it. -/
theorem step_faulted_withCancelReq {s : State} (hr : s.pins.rstN = true) (hb : s.breq = none) (hp : s.pc = .idle)
    (ht : s.topState = .faulted) (b : Bool) :
    step (s.withCancelReq b) = mapNext (State.withCancelReq (b || s.pins.cancel)) (step s) := by
  have hfetch : (s.withCancelReq b).fetch = s.fetch := rfl
  have hbegin : (s.withCancelReq b).beginStep = s.beginStep.withCancelReq b := rfl
  rw [step_run (s.withCancelReq b) hr, step_run s hr, hfetch, hbegin, runFetched_faulted_withCancelReq hp hb ht,
    mapNext_mapNext, mapNext_mapNext]
  cases hu : runFetched s.fetch s.beginStep with
  | next u =>
    have hpins : u.pins = s.pins := (runFetched_pins hu :)
    simp only [mapNext, endStep_eq, State.withCancelReq, hpins]
  | fault r => rfl
  | refused r => rfl

/-- Settles O11: an IDLE step looks at the pending cancellation before the command port, and none is pending in
FAULTED. -/
theorem idleCancellationComesFirst : Obligations.IdleCancellationComesFirst := by
  constructor
  · intro s hr hb hp hc ht
    have hpending : s.cancelPending = true := cancelPending_iff.mpr ⟨hc, ht⟩
    rcases step_at_idle hr hb hp with ⟨-, e⟩ | ⟨hn, -⟩ | ⟨_, _, hn, -⟩ | ⟨_, _, hn, -⟩
    · exact e
    all_goals exact absurd (hn.symm.trans hpending) Bool.false_ne_true
  · intro s b hr hb hp ht
    exact step_faulted_withCancelReq (s := s.withCancelReq false) hr hb hp ht b

/-! A run of RUN, tick by tick (R186). -/

/-- `t` is in a RUN that polls, at the label `l`, with no cancellation latched and no request outstanding. -/
structure State.Running (l : Label) (t : State) : Prop where
  pc : t.pc = l
  topState : t.topState = .polling
  inRun : t.inRun = true
  cancelReq : t.cancelReq = false
  breq : t.breq = none

/-- `t` is at the start of a tick of that RUN, with these inputs to come. -/
structure State.RunningAt (l : Label) (ps : List Inputs) (t : State) : Prop extends t.Running l where
  pins : t.pins = ps.headD Inputs.quiet
  env : t.env = ps.tail

/-- What the host has got of a RUN: the reports and the reading store, and the fault code. -/
structure RunView where
  faultCode : SessionFault
  co2 : Half
  tvoc : Half
  valid : Bool
  reports : List Report

def State.runView (s : State) : RunView where
  faultCode := s.faultCode
  co2 := s.readingCo2
  tvoc := s.readingTvoc
  valid := s.readingValid
  reports := reportsOf s.events

@[simp] theorem runView_endStep (s : State) : s.endStep.runView = s.runView := by rw [endStep_eq]; rfl

theorem runView_withInputs (s : State) (ps : List Inputs) : (s.withInputs ps).runView = s.runView := by
  cases ps <;> rfl

theorem State.Running.withInputs {s : State} {l : Label} (h : s.Running l) (p : Inputs) (ps : List Inputs) :
    (s.withInputs (p :: ps)).RunningAt l (p :: ps) :=
  ⟨⟨h.pc, h.topState, h.inRun, h.cancelReq, h.breq⟩, rfl, rfl⟩

/-- The next tick of a RUN, where this one brought no cancellation. -/
theorem State.Running.endStep {v : State} {l : Label} {ps : List Inputs} (h : v.Running l)
    (hc : v.pins.cancel = false) (he : v.env = ps) : v.endStep.RunningAt l ps := by
  rw [endStep_eq, ← he]
  exact ⟨⟨h.pc, h.topState, h.inRun, by simp [h.cancelReq, hc], h.breq⟩, rfl, rfl⟩

/-- A step performs the transaction of its label. -/
theorem step_of_exec_label {s v : State} {i : Instr} (hr : s.pins.rstN = true) (hb : s.breq = none)
    (hl : s.labelTransaction = some i) (h : exec i s.beginStep = .next v) : step s = .next v.endStep := by
  rw [step_run s hr, fetch_label hb hl, runFetched, h, mapNext]

section
variable {t : State} {ps : List Inputs} {d : Word}

/-- A checkpoint passed. -/
theorem State.RunningAt.checkpoint {l l' : Label} (h : t.RunningAt l (Inputs.quiet :: ps))
    (hl : (l = .runChkHead ∧ l' = .pollSt) ∨ (l = .runChkPre ∧ l' = .sleep)) :
    ∃ u, step t = .next u ∧ u.RunningAt l' ps ∧ u.runView = t.runView := by
  have hpins : t.pins = Inputs.quiet := h.pins
  have hstep := step_checkpoint (by rw [hpins]; rfl) h.breq (by rwa [h.pc])
  rw [State.checkpoint, if_neg (by simp [h.cancelReq])] at hstep
  exact ⟨_, hstep, State.Running.endStep ⟨rfl, h.topState, h.inRun, h.cancelReq, h.breq⟩ (congrArg Inputs.cancel hpins)
    h.env, runView_endStep _⟩

/-- The timer ends the sleep. -/
theorem State.RunningAt.sleep (h : t.RunningAt .sleep ({ Inputs.quiet with timer := true } :: ps)) :
    ∃ u, step t = .next u ∧ u.RunningAt .runChkHead ps ∧ u.runView = t.runView := by
  have hpins : t.pins = { Inputs.quiet with timer := true } := h.pins
  have hstep := step_sleep (by rw [hpins]; rfl) h.breq h.pc
  rw [State.sleepTick, State.beginStep_pins, hpins, if_pos rfl] at hstep
  exact ⟨_, hstep, State.Running.endStep ⟨rfl, h.topState, h.inRun, h.cancelReq, h.breq⟩ (congrArg Inputs.cancel hpins)
    h.env, runView_endStep _⟩

/-- The tick of an answered label that goes on to `l'`. -/
theorem State.RunningAt.answered {l l' : Label} {i : Instr} {v : State}
    (h : t.RunningAt l (Inputs.answering ⟨false, d⟩ :: ps)) (hl : t.labelTransaction = some i)
    (he : exec i t.beginStep = .next v) (hv : v.Running l') (hp : v.pins = t.pins) (henv : v.env = t.env) :
    ∃ u, step t = .next u ∧ u.RunningAt l' ps ∧ u.runView = v.runView := by
  have hpins : t.pins = Inputs.answering ⟨false, d⟩ := h.pins
  exact ⟨_, step_of_exec_label (by rw [hpins]; rfl) h.breq hl he,
    hv.endStep (by rw [hp, hpins]; rfl) (henv.trans h.env), runView_endStep v⟩

/-- DATA_READY goes to the data branch. -/
theorem State.RunningAt.dataReady (h : t.RunningAt .pollSt (Inputs.answering ⟨false, d⟩ :: ps))
    (hd : d.getLsbD 27 = true) : ∃ u, step t = .next u ∧ u.RunningAt .pollData ps ∧ u.runView = t.runView := by
  have hb : t.pins.bus = some ⟨false, d⟩ := congrArg Inputs.bus h.pins
  obtain ⟨hexec, -⟩ := dataReadyBeforeError t.beginStep d h.pc hb
  obtain ⟨u, hstep, hu, hview⟩ := h.answered (labelTransaction_pollSt h.pc) (hexec hd)
    ⟨rfl, h.topState, h.inRun, h.cancelReq, rfl⟩ rfl rfl
  exact ⟨u, hstep, hu, hview.trans (by simp [State.runView])⟩

/-- ERROR alone goes to the error branch. -/
theorem State.RunningAt.error (h : t.RunningAt .pollSt (Inputs.answering ⟨false, d⟩ :: ps))
    (hd : d.getLsbD 27 = false) (he : d.getLsbD 24 = true) :
    ∃ u, step t = .next u ∧ u.RunningAt .pollErr ps ∧ u.runView = t.runView := by
  have hb : t.pins.bus = some ⟨false, d⟩ := congrArg Inputs.bus h.pins
  obtain ⟨-, hexec, -⟩ := dataReadyBeforeError t.beginStep d h.pc hb
  obtain ⟨u, hstep, hu, hview⟩ := h.answered (labelTransaction_pollSt h.pc) (hexec hd he)
    ⟨rfl, h.topState, h.inRun, h.cancelReq, rfl⟩ rfl rfl
  exact ⟨u, hstep, hu, hview.trans (by simp [State.runView])⟩

/-- The data branch stores the block's reading and reports it. -/
theorem State.RunningAt.data (h : t.RunningAt .pollData (Inputs.answering ⟨false, d⟩ :: ps)) :
    ∃ u, step t = .next u ∧ u.RunningAt .runChkPre ps ∧ u.runView = { t.runView with
      co2 := d.extractLsb' 16 16, tvoc := d.extractLsb' 0 16, valid := true
      reports := t.runView.reports ++ [.reading (d.extractLsb' 16 16) (d.extractLsb' 0 16)] } := by
  have hb : t.pins.bus = some ⟨false, d⟩ := congrArg Inputs.bus h.pins
  obtain ⟨hexec, -⟩ := dataBranchStoresTheReading t.beginStep d h.pc
  obtain ⟨u, hstep, hu, hview⟩ := h.answered (labelTransaction_pollData h.pc) (hexec hb true h.inRun)
    ⟨rfl, h.topState, h.inRun, h.cancelReq, rfl⟩ rfl rfl
  exact ⟨u, hstep, hu, hview.trans (by simp [State.runView])⟩

/-- The error branch reports the kind of the error byte. -/
theorem State.RunningAt.errorByte (h : t.RunningAt .pollErr (Inputs.answering ⟨false, d⟩ :: ps)) :
    ∃ u, step t = .next u ∧ u.RunningAt .runChkPre ps ∧ u.runView = { t.runView with
      reports := t.runView.reports ++ [.fault (decodeErrorByte (d.extractLsb' 24 8))] } := by
  have hb : t.pins.bus = some ⟨false, d⟩ := congrArg Inputs.bus h.pins
  obtain ⟨hexec, -⟩ := errorBranchOnlyReports t.beginStep d h.pc hb true h.inRun
  obtain ⟨u, hstep, hu, hview⟩ := h.answered (labelTransaction_pollErr h.pc) hexec
    ⟨rfl, h.topState, h.inRun, h.cancelReq, rfl⟩ rfl rfl
  exact ⟨u, hstep, hu, hview.trans (by simp [State.runView])⟩

/-- An iteration that reads a block, from the head of the loop. -/
theorem State.RunningAt.readingIteration {st blk : Word}
    (h : t.RunningAt .runChkHead (Inputs.quiet :: Inputs.answering ⟨false, st⟩ :: Inputs.answering ⟨false, blk⟩ :: ps))
    (hd : st.getLsbD 27 = true) :
    ∃ u, runTicks 3 t = .next u ∧ u.RunningAt .runChkPre ps ∧ u.runView = { t.runView with
      co2 := blk.extractLsb' 16 16, tvoc := blk.extractLsb' 0 16, valid := true
      reports := t.runView.reports ++ [.reading (blk.extractLsb' 16 16) (blk.extractLsb' 0 16)] } := by
  obtain ⟨t1, hs1, h1, hv1⟩ := h.checkpoint (.inl ⟨rfl, rfl⟩)
  obtain ⟨t2, hs2, h2, hv2⟩ := h1.dataReady hd
  obtain ⟨t3, hs3, h3, hv3⟩ := h2.data
  rw [runTicks_succ 2 hs1, runTicks_succ 1 hs2, runTicks_one hs3]
  exact ⟨t3, rfl, h3, by rw [hv3, hv2, hv1]⟩

/-- A sleep and an iteration that sees ERROR alone, from the checkpoint after the last iteration. -/
theorem State.RunningAt.faultIteration {st er : Word}
    (h : t.RunningAt .runChkPre (Inputs.quiet :: { Inputs.quiet with timer := true } :: Inputs.quiet ::
      Inputs.answering ⟨false, st⟩ :: Inputs.answering ⟨false, er⟩ :: ps))
    (hd : st.getLsbD 27 = false) (he : st.getLsbD 24 = true) :
    ∃ u, runTicks 5 t = .next u ∧ u.RunningAt .runChkPre ps ∧ u.runView = { t.runView with
      reports := t.runView.reports ++ [.fault (decodeErrorByte (er.extractLsb' 24 8))] } := by
  obtain ⟨t1, hs1, h1, hv1⟩ := h.checkpoint (.inr ⟨rfl, rfl⟩)
  obtain ⟨t2, hs2, h2, hv2⟩ := h1.sleep
  obtain ⟨t3, hs3, h3, hv3⟩ := h2.checkpoint (.inl ⟨rfl, rfl⟩)
  obtain ⟨t4, hs4, h4, hv4⟩ := h3.error hd he
  obtain ⟨t5, hs5, h5, hv5⟩ := h4.errorByte
  rw [runTicks_succ 4 hs1, runTicks_succ 3 hs2, runTicks_succ 2 hs3, runTicks_succ 1 hs4, runTicks_one hs5]
  exact ⟨t5, rfl, h5, by rw [hv5, hv4, hv3, hv2, hv1]⟩

end

/-- Settles O31: the first iteration stores and reports the reading, the second adds its report and nothing else. -/
theorem runReportsReadingThenFault : Obligations.RunReportsReadingThenFault := by
  intro s st1 blk st2 er hp ht hr hc hb hready hnot herr
  have hrunning : s.Running .runChkHead := ⟨hp, ht, hr, hc, hb⟩
  obtain ⟨u, hrun, hu, hviewu⟩ := (hrunning.withInputs _ _).readingIteration hready
  obtain ⟨t, hrun', ht', hviewt⟩ := hu.faultIteration hnot herr
  rw [runView_withInputs] at hviewu
  have hvalid : t.readingValid = u.readingValid := congrArg RunView.valid hviewt
  have hfault : t.faultCode = u.faultCode := congrArg RunView.faultCode hviewt
  have hvalid' : u.readingValid = true := congrArg RunView.valid hviewu
  exact ⟨u, t, hrun, congrArg RunView.reports hviewu, congrArg RunView.co2 hviewu, congrArg RunView.tvoc hviewu, hvalid',
    hrun', congrArg RunView.reports hviewt, congrArg RunView.co2 hviewt, congrArg RunView.tvoc hviewt,
    hvalid.trans hvalid', ht'.topState, hfault.trans (congrArg RunView.faultCode hviewu), ht'.pc⟩

end Sys2Proof.Machine

/-! PROOFS. The error decoder (43_error_decoder.md): the kind of a byte is that of its highest error bit, and DECODE
answers it. -/

namespace Sys2Proof.Machine

/-! The scan of the table (R200). -/

/-- In a table in order of descending bits, the scan finds the highest row whose bit is set. -/
theorem scanErrors_highest {e : Byte} {bit : Nat} {kind : FaultKind} {table : List (Nat × FaultKind)}
    (horder : table.Pairwise (fun a b => b.1 < a.1)) (hrow : (bit, kind) ∈ table) (hset : e.getLsbD bit = true)
    (habove : ∀ row ∈ table, bit < row.1 → e.getLsbD row.1 = false) : scanErrors e table = kind := by
  induction table with
  | nil => cases hrow
  | cons top rest ih =>
    obtain ⟨htop, hrest⟩ := List.pairwise_cons.mp horder
    obtain ⟨hclear, habove'⟩ := List.forall_mem_cons.mp habove
    rcases List.mem_cons.mp hrow with rfl | hmem
    · rw [scanErrors, if_pos hset]
    · rw [scanErrors, hclear (htop _ hmem), if_neg Bool.false_ne_true, ih hrest hmem habove']

/-- A kind is told by its code (R85). -/
theorem FaultKind.eq_of_code {k k' : FaultKind} (h : k.code.toNat = k'.code.toNat) : k = k' := by
  revert h
  cases k <;> cases k' <;> decide

/-! The highest error bit of a byte (R201). -/

/-- `p` is the most significant set bit of `e[5:0]`. -/
def HighestErrorBit (e : Byte) (p : Nat) : Prop :=
  p < 6 ∧ e.getLsbD p = true ∧ ∀ q, p < q → q < 6 → e.getLsbD q = false

/-- The decoder's code is one more than the highest error bit (R85, R201). -/
theorem HighestErrorBit.code {e : Byte} {p : Nat} (h : HighestErrorBit e p) :
    (decodeErrorByte e).code.toNat = p + 1 := by
  obtain ⟨hp, hset, habove⟩ := h
  have hrows : ∀ p < 6, ∃ row ∈ errorTable, row.1 = p ∧ row.2.code.toNat = p + 1 := by decide
  have hbits : ∀ row ∈ errorTable, row.1 < 6 := by decide
  obtain ⟨⟨bit, kind⟩, hrow, rfl, hcode⟩ := hrows p hp
  rw [decodeErrorByte, scanErrors_highest (by decide) hrow hset fun row hmem hlt => habove _ hlt (hbits row hmem)]
  exact hcode

/-- Bytes with the same highest error bit have the same kind. -/
theorem HighestErrorBit.kind_eq {e e' : Byte} {p : Nat} (h : HighestErrorBit e p) (h' : HighestErrorBit e' p) :
    decodeErrorByte e' = decodeErrorByte e := FaultKind.eq_of_code (h'.code.trans h.code.symm)

/-- The bits of `e[5:0]` as a number. -/
theorem testBit_errorBits (e : Byte) (q : Nat) :
    (e.extractLsb' 0 6).toNat.testBit q = (decide (q < 6) && e.getLsbD q) := by
  rw [BitVec.testBit_toNat, BitVec.getLsbD_extractLsb', Nat.zero_add]

/-- A byte with an error bit has a highest one, which is the logarithm of `e[5:0]`. -/
theorem highestErrorBit_log2 {e : Byte} (h : e.extractLsb' 0 6 ≠ 0#6) :
    HighestErrorBit e (Nat.log2 (e.extractLsb' 0 6).toNat) := by
  have hne : (e.extractLsb' 0 6).toNat ≠ 0 := fun h0 => h (BitVec.eq_of_toNat_eq h0)
  have hset := Nat.testBit_log2 hne
  rw [testBit_errorBits, Bool.and_eq_true, decide_eq_true_eq] at hset
  refine ⟨hset.1, hset.2, fun q hq hq6 => ?_⟩
  have hclear := Nat.testBit_lt_two_pow ((Nat.log2_lt hne).mp hq)
  rwa [testBit_errorBits, decide_eq_true hq6, Bool.true_and] at hclear

/-- A kind other than NO_FAULT is that of a highest error bit. -/
theorem exists_highestErrorBit {e : Byte} (h : decodeErrorByte e ≠ .noFault) : ∃ p, HighestErrorBit e p :=
  ⟨_, highestErrorBit_log2 (mt decodeErrorByte_noFault h)⟩

/-- Settles O32: without an error bit the scan finds nothing, and else it finds the highest. -/
theorem decoderClosedForm : Obligations.DecoderClosedForm := by
  intro e
  split
  · rw [decodeErrorByte_noFault ‹_›]; rfl
  · exact (highestErrorBit_log2 ‹_›).code

/-! What the decoder ignores (R203), and the priority of the bits (R204, R206). -/

/-- The decoder sees `e[5:0]` only. -/
theorem decodeErrorByte_congr {e e' : Byte} (h : e.extractLsb' 0 6 = e'.extractLsb' 0 6) :
    decodeErrorByte e = decodeErrorByte e' := by
  apply FaultKind.eq_of_code
  rw [decoderClosedForm e, decoderClosedForm e', h]

/-- The mask 0x3F keeps `e[5:0]`. -/
theorem errorBits_masked (e : Byte) : (e &&& 0x3F#8).extractLsb' 0 6 = e.extractLsb' 0 6 := by
  rw [BitVec.extractLsb'_and]
  exact BitVec.and_allOnes

/-- Settles O33: the mask keeps the bits the decoder sees; the four bytes are evaluated. -/
theorem decoderPriorityLaws : Obligations.DecoderPriorityLaws :=
  ⟨fun e => decodeErrorByte_congr (errorBits_masked e).symm, by decide⟩

/-- The bits of a byte after bit `i` is set. -/
theorem getLsbD_setBit (e : Byte) {i : Nat} (hi : i < 8) (q : Nat) :
    (e ||| (1#8 <<< i)).getLsbD q = (e.getLsbD q || decide (i = q)) := by
  rw [BitVec.getLsbD_or, ← BitVec.twoPow, BitVec.getLsbD_twoPow, decide_eq_true hi, Bool.true_and]

/-- Setting a bit below the highest error bit, or bit 6 or 7, leaves it the highest. -/
theorem HighestErrorBit.setLower {e : Byte} {p i : Nat} (h : HighestErrorBit e p) (hi : i < 8)
    (hlow : i < p ∨ 6 ≤ i) : HighestErrorBit (e ||| (1#8 <<< i)) p := by
  obtain ⟨hp, hset, habove⟩ := h
  refine ⟨hp, by rw [getLsbD_setBit e hi, hset, Bool.true_or], fun q hq hq6 => ?_⟩
  rw [getLsbD_setBit e hi, habove q hq hq6, Bool.false_or, decide_eq_false (by omega)]

/-- Setting an error bit above the highest one makes it the highest. -/
theorem HighestErrorBit.setHigher {e : Byte} {p i : Nat} (h : HighestErrorBit e p) (hi : i < 6) (hhigh : p < i) :
    HighestErrorBit (e ||| (1#8 <<< i)) i := by
  obtain ⟨-, -, habove⟩ := h
  have hi8 : i < 8 := by omega
  refine ⟨hi, by rw [getLsbD_setBit e hi8, decide_eq_true rfl, Bool.or_true], fun q hq hq6 => ?_⟩
  rw [getLsbD_setBit e hi8, habove q (hhigh.trans hq) hq6, Bool.false_or, decide_eq_false hq.ne]

/-- Settles O34: a lower bit leaves the highest error bit as it is, a higher one takes its place. -/
theorem decoderMonotone : Obligations.DecoderMonotone := by
  intro e i hfault hi
  obtain ⟨p, hp⟩ := exists_highestErrorBit hfault
  rw [hp.code]
  refine ⟨fun hlow => hp.kind_eq (hp.setLower hi (by omega)), fun hhigh hi5 => ?_⟩
  exact (hp.setHigher (by omega) (by omega)).code

/-! The command (R202). -/

/-- Settles O8: DECODE is legal in every session state, and its body is the response. -/
theorem decodeCommandAnswersKind : Obligations.DecodeCommandAnswersKind := by
  refine ⟨fun e => decodeCommand_of_encode (i := .decodeError e) rfl, fun s e hs => ?_,
    decodeErrorByte_noFault (by decide), decodeErrorByte_noFault (by decide), by decide, by decide⟩
  rw [exec_accepts (i := .decodeError e) rfl hs rfl, State.latchCommand_commandWord]
  rfl

end Sys2Proof.Machine

/-! PROOFS. Exceptions (60_exceptions.md): the rejection of illegal and reserved commands, `BusError`, and the session
in FAULTED. -/

namespace Sys2Proof.Machine

/-! Rejection (R107, R118, R223). -/

/-- What an accepting controller does with a word that the session state does not allow. -/
theorem acceptCommand_rejects {s : State} {legal : TopState → Bool} (hs : s.accepting) (hl : legal s.topState = false)
    (w : Half) (body : State → State) :
    acceptCommand w legal body s = .next ((s.latchCommand w).respond .rejected 0x0000#16) := by
  obtain ⟨hp, hc⟩ := hs
  rw [acceptCommand, if_neg (not_not_intro hp), hc, if_neg Bool.false_ne_true, hl, if_neg Bool.false_ne_true]

theorem exec_rejects {i : Instr} {w : Half} {s : State} (hi : encode i = .command w) (hs : s.accepting)
    (hl : commandLegal i s.topState = false) :
    exec i s = .next ((s.latchCommand w).respond .rejected 0x0000#16) := by
  rw [exec_command hi, acceptCommand_rejects hs hl]

theorem rejectReserved_rejects {s : State} (hs : s.accepting) (w : Half) :
    rejectReserved w s = .next ((s.latchCommand w).respond .rejected 0x0000#16) :=
  acceptCommand_rejects (legal := fun _ => false) hs rfl w _

/-- The REJECTED cells of the legality table at IDLE (R107). -/
theorem commandLegal_eq_false {i : Instr} {t : TopState} (h : (i = .configure ∧ t ≠ .uninitialized) ∨
    (((∃ m, i = .setDriveMode m) ∨ i = .getBaseline ∨ i = .pollOnce) ∧ t ≠ .polling) ∨
    (i = .run ∧ t ≠ .uninitialized ∧ t ≠ .polling)) : commandLegal i t = false := by
  rcases h with ⟨rfl, hu⟩ | ⟨⟨m, rfl⟩ | rfl | rfl, hp⟩ | ⟨rfl, hu, hp⟩
  · simpa [commandLegal, legalConfigure] using hu
  · simpa [commandLegal, legalInPolling] using hp
  · simpa [commandLegal, legalInPolling] using hp
  · simpa [commandLegal, legalInPolling] using hp
  · simpa [commandLegal, legalRun] using ⟨hu, hp⟩

/-- Settles O9: the table's REJECTED cells are illegal, a reserved word is illegal everywhere, and both are rejected in
the same way. -/
theorem illegalCommandsAreRejected : Obligations.IllegalCommandsAreRejected :=
  ⟨fun _ _ hs _ h _ hi => exec_rejects hi hs (commandLegal_eq_false h), fun _ w hs _ => rejectReserved_rejects hs w⟩

/-! `BusError` (R220, R221). -/

/-- No command is in progress at IDLE and at OPEN (R220). -/
theorem commandInProgress_eq_false_iff {s : State} :
    s.commandInProgress = false ↔ s.pc = .idle ∨ s.pc = .openBus := by
  simp [State.commandInProgress, imp_iff_not_or]

/-- A session fault, by the label it is taken at (R220). -/
theorem sessionFault_eq (s : State) (f : SessionFault) :
    s.sessionFault f = if s.pc = .idle ∨ s.pc = .openBus
      then { s with faultCode := f, topState := .faulted, inRun := false, pc := .idle }
      else { s with
        faultCode := f, topState := .faulted, inRun := false, pc := .idle, rsp := some ⟨.fault, f.responseData⟩,
        events := s.events ++ [.response ⟨.fault, f.responseData⟩] } := by
  rcases sessionFault_cases s f with ⟨hc, e⟩ | ⟨hc, e⟩ <;> rw [e]
  · rw [if_neg (mt commandInProgress_eq_false_iff.mpr (by simp [hc]))]
  · rw [if_pos (commandInProgress_eq_false_iff.mp hc)]

/-- A word on the bus request port is that of a bus transaction (R114). -/
theorem busRequest_of_encode {i : Instr} {w : Word} (h : encode i = .busRequest w) :
    isHostCommand i = false ∧ requestOf i = w := by
  cases hi : isHostCommand i with
  | true =>
    obtain ⟨c, hc⟩ := encode_host hi
    cases hc.symm.trans h
  | false => exact ⟨rfl, PortWord.busRequest.inj ((encode_bus i hi).symm.trans h)⟩

/-- Settles O35: the failed transaction is recorded, and the session fault answers the command in progress. -/
theorem busErrorTakesSessionFault : Obligations.BusErrorTakesSessionFault := by
  intro s i w d hi hb
  obtain ⟨hbus, rfl⟩ := busRequest_of_encode hi
  rw [exec_busError hbus hb, sessionFault_eq, State.completeBus_events, List.append_assoc]
  rfl

/-! The session in FAULTED (R224). -/

/-- The response to a command word in FAULTED. -/
def faultedAnswer (w : Half) : Response :=
  if opField w = 0x06#8 then ⟨.ok, (decodeErrorByte (argField w)).responseData⟩ else ⟨.rejected, 0x0000#16⟩

theorem decodeCommand_decodeError {w : Half} (h : opField w = 0x06#8) :
    decodeCommand w = .ok (.decodeError (argField w)) := by simp [decodeCommand, h]

/-- Of the commands, FAULTED allows DECODE only. -/
theorem commandLegal_faulted {i : Instr} {w : Half} (hi : encode i = .command w) (hop : opField w ≠ 0x06#8) :
    commandLegal i .faulted = false := by
  cases i with
  | configure | setDriveMode | getBaseline | pollOnce | run => rfl
  | decodeError e =>
    cases hi
    exact absurd (opField_commandWord 0x06#8 e) hop
  | openHandle | readByte | readBlock | writeByte | writeCommand => cases hi

/-- A word presented in FAULTED is latched and answered, whatever it decodes to. -/
theorem runFetched_faulted {s : State} (hp : s.pc = .idle) (ht : s.topState = .faulted) (w : Half) :
    runFetched (fetchCommand w) s =
      .next ((s.latchCommand w).respond (faultedAnswer w).code (faultedAnswer w).data) := by
  have hs : s.accepting := ⟨hp, cancelPending_of_faulted ht⟩
  by_cases hop : opField w = 0x06#8
  · have hd := decodeCommand_decodeError hop
    rw [faultedAnswer, if_pos hop, fetchCommand, hd]
    exact exec_accepts (encode_of_decodeCommand hd) hs rfl
  · rw [faultedAnswer, if_neg hop, fetchCommand]
    cases hd : decodeCommand w with
    | error e => exact rejectReserved_rejects hs w
    | ok i =>
      have hi := encode_of_decodeCommand hd
      exact exec_rejects hi hs (by rw [ht, commandLegal_faulted hi hop])

/-- Everything a step out of reset can do in FAULTED: nothing, or answer the word presented. -/
theorem step_faulted {s : State} (hr : s.pins.rstN = true) (hb : s.breq = none) (hp : s.pc = .idle)
    (ht : s.topState = .faulted) :
    (s.pins.cmd = none ∧ step s = .next s.beginStep.endStep) ∨
    (∃ w, s.pins.cmd = some w ∧ step s = .next
      ((s.beginStep.latchCommand w).respond (faultedAnswer w).code (faultedAnswer w).data).endStep) := by
  rw [step_run s hr, fetch_idle hb hp]
  cases s.pins.cmd with
  | none =>
    refine .inl ⟨rfl, ?_⟩
    simp [runFetched, mapNext, State.internalStep, hp, cancelPending_of_faulted, ht]
  | some w =>
    refine .inr ⟨w, rfl, ?_⟩
    simp only [runFetched_faulted (s := s.beginStep) hp ht w, mapNext]

/-- Settles O51: a FAULTED session is at IDLE with nothing outstanding, and there a step does no more than answer. -/
theorem faultedUntilReset : Obligations.FaultedUntilReset := by
  intro s hs hr ht
  have hp : s.pc = .idle := by
    by_contra hbusy
    obtain ⟨hfaulted, -⟩ := busy_topState hs hbusy
    exact hfaulted ht
  obtain ⟨-, -, -, -, -, hb⟩ := (inv_idle_iff hp).mp hs
  rcases step_faulted hr hb hp ht with ⟨hw, e⟩ | ⟨w, hw, e⟩ <;> rw [hw]
  · exact ⟨_, e, by simp [ht, hp]⟩
  · refine ⟨_, e, by simp [ht], by simp, by simp [hp], by simp, ?_⟩
    rw [endStep_rsp, State.respond_rsp]
    exact apply_ite some _ _ _

end Sys2Proof.Machine

/-! PROOFS. Reset and hazards (70_reset_and_hazards.md): the transaction nobody answers, the reset from every state, and
the OPEN step after it. -/

namespace Sys2Proof.Machine

/-! A transaction without an answer (R266). -/

/-- Neither this tick nor one to come answers or resets. -/
def State.Silent (s : State) : Prop := ∀ p ∈ s.pins :: s.env, p.rstN = true ∧ p.bus = none

/-- The transaction `i` of the label at `pc` waits for an answer that does not come. -/
structure State.Hangs (i : Instr) (s : State) : Prop where
  label : s.labelTransaction = some i
  fits : busFits s = true
  silent : s.Silent

/-- The inputs of the next tick are the schedule's next, or quiet after its end. -/
theorem State.Silent.endStep {s : State} (h : s.Silent) : s.endStep.Silent := by
  rw [endStep_eq]
  unfold State.Silent at h ⊢
  cases hs : s.env with
  | nil => simp [Inputs.quiet]
  | cons q rest =>
    rw [hs] at h
    exact fun p hp => h p (List.mem_cons_of_mem _ hp)

/-- After a tick of the wait the same transaction still waits. -/
theorem State.Hangs.persists {i : Instr} {s : State} (h : s.Hangs i) :
    ∃ t, step s = .next t ∧ t.Hangs i ∧ t.pc = s.pc ∧ t.topState = s.topState ∧ t.faultCode = s.faultCode ∧
      t.events = s.events := by
  obtain ⟨hr, hb⟩ := h.silent s.pins List.mem_cons_self
  rcases step_at_label hr h.fits h.label with ⟨-, e⟩ | ⟨d, hd, -⟩ | ⟨d, hd, -⟩
  · have hl : (State.endStep { s.beginStep with breq := some (requestOf i) }).labelTransaction = some i := by
      rw [endStep_eq]
      exact h.label
    exact ⟨_, e, ⟨hl, busFits_of_request (endStep_breq _) hl, State.Silent.endStep h.silent⟩, by simp, by simp, by simp,
      by simp⟩
  · cases hb.symm.trans hd
  · cases hb.symm.trans hd

/-- Settles O36, by induction on the number of ticks: each is a tick of the wait. -/
theorem unansweredTransactionHangs : Obligations.UnansweredTransactionHangs := by
  intro n s i hl hf hsilent
  have hhangs : s.Hangs i := ⟨hl, hf, hsilent⟩
  clear hl hf hsilent
  induction n generalizing s with
  | zero => exact ⟨s, rfl, rfl, rfl, rfl, rfl⟩
  | succ n ih =>
    obtain ⟨t, hstep, ht, hpc, htop, hfault, hevents⟩ := hhangs.persists
    rw [runTicks_succ n hstep, ← hpc, ← htop, ← hfault, ← hevents]
    exact ih t ht

/-! Reset (R250). -/

/-- Out of reset a step ends no FAULTED and no STOPPED session: R21 lists no transition from either. -/
theorem topState_of_ended {s t : State} (hs : s.Inv) (hr : s.pins.rstN = true)
    (he : s.topState = .faulted ∨ s.topState = .stopped) (h : step s = .next t) : t.topState = s.topState := by
  by_contra hne
  rcases onlyListedSessionTransitions s t hs hr h hne with ⟨ht, -⟩ | ⟨ht, -⟩ | ⟨hf, hst, -⟩ | ⟨ht | ht, -⟩
  · simp [ht] at he
  · simp [ht] at he
  · exact he.elim hf hst
  · simp [ht] at he
  · simp [ht] at he

/-- Settles O44: a tick in reset reads nothing but the record and the inputs. -/
theorem resetFromEveryState : Obligations.ResetFromEveryState := by
  refine ⟨fun s hr => ⟨_, tick_reset s hr, ?_⟩, fun s t => topState_of_ended⟩
  rw [nextPins_eq]
  exact ⟨rfl, rfl, rfl, rfl, rfl, rfl, rfl, rfl, rfl, rfl, rfl, rfl⟩

/-! OPEN after reset (R251). -/

/-- The OPEN step from the reset values runs the meaning of OPEN. -/
theorem step_open_of_exec {p : Inputs} {ps : List Inputs} {v : State} (hr : p.rstN = true)
    (h : exec (.openHandle Config.busIndex 0x5B#7) (State.reset.withInputs (p :: ps)) = .next v) :
    step (State.reset.withInputs (p :: ps)) = .next v.endStep :=
  step_of_exec_label hr rfl rfl h

/-- Settles O13: OPEN's meaning with and without `BusError`, from the reset values. -/
theorem openIsTheFirstStep : Obligations.OpenIsTheFirstStep := by
  rintro p ps ⟨err, d⟩ hr hb
  cases err with
  | false =>
    refine ⟨_, step_open_of_exec hr (openCompletes _ _ _ d hb), ?_, fun _ => ?_, nofun⟩ <;> rw [endStep_eq]
    · rfl
    · exact ⟨rfl, rfl, rfl, rfl, rfl⟩
  | true =>
    refine ⟨_, step_open_of_exec hr (busErrorTakesSessionFault _ _ _ d rfl hb), ?_, nofun, fun _ => ?_⟩ <;>
      rw [endStep_eq]
    · rfl
    · rw [openWord_eq]
      exact ⟨rfl, rfl, rfl, rfl, rfl⟩

end Sys2Proof.Machine
